-- ==== Sys2Proof/Word.lean ====
section
/-! DEFINITION. The word types of the GCM-SIV engine (00_scope.md R10, R11).

A field of m bytes is one bit vector of 8·m bits with byte i in bits 8i+7:8i. This is the packing of the register
window (20_memory.md R62) and the integer reading of a POLYVAL block (41_uhash.md R151), so a bytewise exclusive-or of
two fields is `^^^`, and `A || B` (A first, 00_scope.md R11) is `B ++ A`. -/

namespace Sys2Proof

/-- 8 bits, bit 0 least significant (00_scope.md R13). -/
abbrev Byte := BitVec 8

/-- A register word or a command word (00_scope.md R10, 20_memory.md R61). -/
abbrev Word := BitVec 32

/-- A block: 16 bytes, byte i in bits 8i+7:8i (00_scope.md R11). -/
abbrev Block := BitVec 128

/-- A 12-byte nonce (10_state.md R32). -/
abbrev Nonce := BitVec 96

/-- The 32 bytes of KEY or EK (10_state.md R31, R40). -/
abbrev KeyBytes := BitVec 256

end Sys2Proof
end

