-- ==== Sys2Proof/Syntax.lean ====
section
/-! DEFINITION. The fifteen commands of the engine (30_encoding.md R92) and their operands (R91, R93 to R100). -/

namespace Sys2Proof

/-- KSZ, MKSZ and EKSZ: 0 is AES-128, 1 is AES-256 (30_encoding.md R97, 10_state.md R38, R40). -/
inductive KeySize where
  | aes128
  | aes256
deriving DecidableEq, Repr

/-- KSEL of AESE: 0 the master key schedule, 1 the encryption subkey schedule (30_encoding.md R98). -/
inductive KeySelect where
  | mrk
  | erk
deriving DecidableEq, Repr

/-- HM of HINIT and the register HMODE: 0 POLYVAL, 1 GHASH (30_encoding.md R99, 10_state.md R42). -/
inductive HashMode where
  | polyval
  | ghash
deriving DecidableEq, Repr

/-- CLS of HUPD and HUPD6: 0 AAD, 1 message (30_encoding.md R95). -/
inductive HashClass where
  | aad
  | message
deriving DecidableEq, Repr

/-- SRC of HUPD and HUPD6: 0 DIN, 1 DOUT (30_encoding.md R96). -/
inductive DataSource where
  | din
  | dout
deriving DecidableEq, Repr

/-- SRC of CTRI: 0 the seed is TAG, 1 the seed is DIN[0] (30_encoding.md R96). -/
inductive SeedSource where
  | tag
  | din
deriving DecidableEq, Repr

/-- ALL of ZERO: 0 the ephemeral state only, 1 the master key too (30_encoding.md R100). -/
inductive ZeroScope where
  | ephemeral
  | all
deriving DecidableEq, Repr

/-- One constructor per row of the opcode table (30_encoding.md R92, R101). `slot` is the slot index j; `n` is the byte
count the NB field encodes, 1 to 16 (R93). -/
inductive Instr where
  | nop
  | kexp (ksz : KeySize)
  | kdf
  | aese (ksel : KeySelect) (slot : Fin 8)
  | hkey (slot : Fin 8)
  | hinit (hm : HashMode)
  | hupd (cls : HashClass) (src : DataSource) (slot : Fin 8) (n : Nat)
  | hupd6 (cls : HashClass) (src : DataSource)
  | hlen
  | tagf
  | ctri (src : SeedSource)
  | ctrx1 (slot : Fin 8) (n : Nat)
  | ctrx4
  | ctrx8
  | zero (scope : ZeroScope)
deriving DecidableEq, Repr

end Sys2Proof
end

