-- ==== Sys2Proof/WellFormed.lean ====
section
/-! DEFINITION. Which terms of `Instr` a command word can encode on an engine with the given PIPE option. -/

namespace Sys2Proof

/-- Every byte count from 1 to 16 is encodable, and no other (30_encoding.md R93). -/
def byteCountOk (n : Nat) : Bool := 1 ≤ n && n ≤ 16

/-- The commands that exist only with PIPE = 1 (30_encoding.md R92, 00_scope.md R3). -/
def Instr.needsPipe : Instr → Bool
  | .nop => false
  | .kexp _ => false
  | .kdf => false
  | .aese _ _ => false
  | .hkey _ => false
  | .hinit _ => false
  | .hupd _ _ _ _ => false
  | .hupd6 _ _ => true
  | .hlen => false
  | .tagf => false
  | .ctri _ => false
  | .ctrx1 _ _ => false
  | .ctrx4 => true
  | .ctrx8 => true
  | .zero _ => false

/-- The byte counts an instruction holds are encodable (30_encoding.md R93). -/
def Instr.countsOk : Instr → Bool
  | .nop => true
  | .kexp _ => true
  | .kdf => true
  | .aese _ _ => true
  | .hkey _ => true
  | .hinit _ => true
  | .hupd _ _ _ n => byteCountOk n
  | .hupd6 _ _ => true
  | .hlen => true
  | .tagf => true
  | .ctri _ => true
  | .ctrx1 _ n => byteCountOk n
  | .ctrx4 => true
  | .ctrx8 => true
  | .zero _ => true

/-- The instruction exists on this engine and its operands are encodable. -/
def Instr.wellFormed (pipe : Bool) (i : Instr) : Bool := (!i.needsPipe || pipe) && i.countsOk

end Sys2Proof
end

