-- ==== Sys2Proof/Decode.lean ====
section
/-! DEFINITION. The command decoder (30_encoding.md R90 to R103), total on every 32-bit word, and the encoder written
from the same tables. -/

namespace Sys2Proof

/-- Why a word is no legal encoding (30_encoding.md R102). -/
inductive DecodeError where
  | illegal
  | reserved
  | keySize
deriving DecidableEq, Repr

/-- The assigned opcodes, one per row of 30_encoding.md R92. -/
inductive Op where
  | nop | kexp | kdf | aese | hkey | hinit | hupd | hupd6 | hlen | tagf | ctri | ctrx1 | ctrx4 | ctrx8 | zero
deriving DecidableEq, Repr

/-- The OP value of 30_encoding.md R92. -/
def Op.byte : Op → Byte
  | .nop => 0x00
  | .kexp => 0x01
  | .kdf => 0x02
  | .aese => 0x03
  | .hkey => 0x10
  | .hinit => 0x11
  | .hupd => 0x12
  | .hupd6 => 0x13
  | .hlen => 0x14
  | .tagf => 0x20
  | .ctri => 0x30
  | .ctrx1 => 0x31
  | .ctrx4 => 0x32
  | .ctrx8 => 0x33
  | .zero => 0x3F

/-- Every assigned opcode, in the order of 30_encoding.md R92. -/
def Op.table : List Op :=
  [.nop, .kexp, .kdf, .aese, .hkey, .hinit, .hupd, .hupd6] ++ [.hlen, .tagf, .ctri, .ctrx1, .ctrx4, .ctrx8, .zero]

/-- The opcode of an OP value; none for an unassigned value (30_encoding.md R92). -/
def Op.ofByte (b : Byte) : Option Op := Op.table.find? fun o => o.byte == b

/-- "exists when PIPE = 1" (30_encoding.md R92). -/
def Op.pipeOnly : Op → Bool
  | .hupd6 => true
  | .ctrx4 => true
  | .ctrx8 => true
  | .nop | .kexp | .kdf | .aese | .hkey | .hinit | .hupd | .hlen | .tagf | .ctri | .ctrx1 | .zero => false

/-- The bits of 31:8 an opcode uses (30_encoding.md R101), both bits of KSZ counted as used by KEXP (R102 step 2). -/
def Op.usedBits : Op → Word
  | .nop => 0
  | .kexp => 0x00060000
  | .kdf => 0
  | .aese => 0x00087000
  | .hkey => 0x00007000
  | .hinit => 0x00100000
  | .hupd => 0x0001FF00
  | .hupd6 => 0x00018000
  | .hlen => 0
  | .tagf => 0
  | .ctri => 0x00010000
  | .ctrx1 => 0x00007F00
  | .ctrx4 => 0
  | .ctrx8 => 0
  | .zero => 0x00200000

/-! The fields of the command word (30_encoding.md R91). -/

def opField (w : Word) : Byte := w.extractLsb' 0 8
def nbField (w : Word) : BitVec 4 := w.extractLsb' 8 4
def slotField (w : Word) : BitVec 3 := w.extractLsb' 12 3
def clsField (w : Word) : BitVec 1 := w.extractLsb' 15 1
def srcField (w : Word) : BitVec 1 := w.extractLsb' 16 1
def kszField (w : Word) : BitVec 2 := w.extractLsb' 17 2
def kselField (w : Word) : BitVec 1 := w.extractLsb' 19 1
def hmField (w : Word) : BitVec 1 := w.extractLsb' 20 1
def allField (w : Word) : BitVec 1 := w.extractLsb' 21 1

/-- n(NB): 16 if NB = 0, else NB (30_encoding.md R93). -/
def byteCount (nb : BitVec 4) : Nat := if nb = 0 then 16 else nb.toNat

/-- j = SLOT (30_encoding.md R94). -/
def slotIndex (slot : BitVec 3) : Fin 8 := Fin.ofNat 8 slot.toNat

def HashClass.ofBit (b : BitVec 1) : HashClass := if b = 0 then .aad else .message
def DataSource.ofBit (b : BitVec 1) : DataSource := if b = 0 then .din else .dout
def SeedSource.ofBit (b : BitVec 1) : SeedSource := if b = 0 then .tag else .din
def KeySelect.ofBit (b : BitVec 1) : KeySelect := if b = 0 then .mrk else .erk
def HashMode.ofBit (b : BitVec 1) : HashMode := if b = 0 then .polyval else .ghash
def ZeroScope.ofBit (b : BitVec 1) : ZeroScope := if b = 0 then .ephemeral else .all

/-- KSZ 0 and 1 name key sizes; 2 and 3 are unsupported (30_encoding.md R97). -/
def KeySize.ofField (k : BitVec 2) : Option KeySize :=
  if k = 0 then some .aes128 else if k = 1 then some .aes256 else none

/-- The operands of a word whose reserved bits are 0 (30_encoding.md R101, R102 step 3, R103 last two lines). -/
def decodeOperands (w : Word) : Op → Except DecodeError Instr
  | .nop => .ok .nop
  | .kexp =>
    match KeySize.ofField (kszField w) with
    | some ksz => .ok (.kexp ksz)
    | none => .error .keySize
  | .kdf => .ok .kdf
  | .aese => .ok (.aese (.ofBit (kselField w)) (slotIndex (slotField w)))
  | .hkey => .ok (.hkey (slotIndex (slotField w)))
  | .hinit => .ok (.hinit (.ofBit (hmField w)))
  | .hupd =>
    .ok (.hupd (.ofBit (clsField w)) (.ofBit (srcField w)) (slotIndex (slotField w)) (byteCount (nbField w)))
  | .hupd6 => .ok (.hupd6 (.ofBit (clsField w)) (.ofBit (srcField w)))
  | .hlen => .ok .hlen
  | .tagf => .ok .tagf
  | .ctri => .ok (.ctri (.ofBit (srcField w)))
  | .ctrx1 => .ok (.ctrx1 (slotIndex (slotField w)) (byteCount (nbField w)))
  | .ctrx4 => .ok .ctrx4
  | .ctrx8 => .ok .ctrx8
  | .zero => .ok (.zero (.ofBit (allField w)))

/-- The decoder of 30_encoding.md R102 and R103. -/
def decode (pipe : Bool) (w : Word) : Except DecodeError Instr :=
  match Op.ofByte (opField w) with
  | none => .error .illegal
  | some op =>
    if op.pipeOnly && !pipe then .error .illegal
    else if (w &&& 0xFFFFFF00) &&& ~~~op.usedBits ≠ 0 then .error .reserved
    else decodeOperands w op

/-! The encoder, from 30_encoding.md R91 and R92. -/

def HashClass.bit : HashClass → BitVec 1
  | .aad => 0
  | .message => 1
def DataSource.bit : DataSource → BitVec 1
  | .din => 0
  | .dout => 1
def SeedSource.bit : SeedSource → BitVec 1
  | .tag => 0
  | .din => 1
def KeySelect.bit : KeySelect → BitVec 1
  | .mrk => 0
  | .erk => 1
def HashMode.bit : HashMode → BitVec 1
  | .polyval => 0
  | .ghash => 1
def ZeroScope.bit : ZeroScope → BitVec 1
  | .ephemeral => 0
  | .all => 1
def KeySize.bit : KeySize → BitVec 1
  | .aes128 => 0
  | .aes256 => 1

/-- NB = n mod 16 (30_encoding.md R93, R105). -/
def nbOfCount (n : Nat) : BitVec 4 := BitVec.ofNat 4 n

def slotBits (slot : Fin 8) : BitVec 3 := BitVec.ofNat 3 slot.val

/-- The bit diagram of 30_encoding.md R91, bit 31 on the left. -/
def packFields (all hm ksel : BitVec 1) (ksz : BitVec 2) (src cls : BitVec 1) (slot : BitVec 3) (nb : BitVec 4)
    (op : Op) : Word :=
  0#10 ++ all ++ hm ++ ksel ++ ksz ++ src ++ cls ++ slot ++ nb ++ op.byte

/-- The command word of an instruction (30_encoding.md R101, R105). -/
def encode : Instr → Word
  | .nop => packFields 0 0 0 0 0 0 0 0 .nop
  | .kexp ksz => packFields 0 0 0 (0#1 ++ ksz.bit) 0 0 0 0 .kexp
  | .kdf => packFields 0 0 0 0 0 0 0 0 .kdf
  | .aese ksel slot => packFields 0 0 ksel.bit 0 0 0 (slotBits slot) 0 .aese
  | .hkey slot => packFields 0 0 0 0 0 0 (slotBits slot) 0 .hkey
  | .hinit hm => packFields 0 hm.bit 0 0 0 0 0 0 .hinit
  | .hupd cls src slot n => packFields 0 0 0 0 src.bit cls.bit (slotBits slot) (nbOfCount n) .hupd
  | .hupd6 cls src => packFields 0 0 0 0 src.bit cls.bit 0 0 .hupd6
  | .hlen => packFields 0 0 0 0 0 0 0 0 .hlen
  | .tagf => packFields 0 0 0 0 0 0 0 0 .tagf
  | .ctri src => packFields 0 0 0 0 src.bit 0 0 0 .ctri
  | .ctrx1 slot n => packFields 0 0 0 0 0 0 (slotBits slot) (nbOfCount n) .ctrx1
  | .ctrx4 => packFields 0 0 0 0 0 0 0 0 .ctrx4
  | .ctrx8 => packFields 0 0 0 0 0 0 0 0 .ctrx8
  | .zero scope => packFields scope.bit 0 0 0 0 0 0 0 .zero

/-- The instruction the decoder reads from a command word given as a number, bit 0 the least significant bit, on an
engine that has every command of the table (PIPE = 1). Every command is one 32-bit word (30_encoding.md R90), so a
length above 32 bits names no command. -/
def decodeTableWord (nbits w : Nat) : Option Instr :=
  if nbits ≤ 32 then
    match decode true (BitVec.ofNat 32 w) with
    | .ok i => some i
    | .error _ => none
  else none

end Sys2Proof
end

