-- ==== Sys2Proof/Config.lean ====
section
/-! DEFINITION. What an implementation of the engine fixes (00_scope.md R9), and the free values of the model. -/

namespace Sys2Proof

/-- The implementation parameters the model takes as arguments (00_scope.md R9). They are fixed for the life of the
hardware: State carries them as plain data and no step writes them (DESIGN CHOICE, log entry 1). -/
structure Params where
  /-- PIPE: the multi-block option is present (00_scope.md R3). -/
  pipe : Bool
  /-- MAX_LEN_BYTES: the largest AAD and the largest message byte count of one hash session (41_uhash.md R163). -/
  maxLenBytes : Nat
deriving DecidableEq, Repr

/-- The range 00_scope.md R9 gives MAX_LEN_BYTES: 1 ≤ MAX_LEN_BYTES ≤ 2^61. -/
def Params.wf (p : Params) : Prop := 1 ≤ p.maxLenBytes ∧ p.maxLenBytes ≤ 2 ^ 61

/-- The parameters of `State.reset`: MAX_LEN_BYTES is the default of 00_scope.md R9; PIPE is OPEN there, and 1 is taken
so that every command exists (DESIGN CHOICE, log entry 1). -/
def Params.default : Params := ⟨true, 2 ^ 36⟩

/-- The free value of the n-th read the spec leaves to a draw: "any value" (70_reset_and_hazards.md R295). It has no
body, so nothing can be proved about it (log entry 3). -/
opaque Config.freeWord : Nat → Word

end Sys2Proof
end

