-- ==== Sys2Proof/Machine/State.lean ====
section
/-! DEFINITION. The state of the engine (10_state.md R20 to R48), its reset value, and why a step can stop. -/

namespace Sys2Proof.Machine

/-- PH, the phase of the hash session (10_state.md R42). -/
inductive Phase where
  | idle
  | aad
  | msg
  | final
deriving DecidableEq, Repr

/-- The error causes of 60_exceptions.md R261. -/
inductive ErrCode where
  | illop
  | rsvd
  | keysz
  | nokey
  | nosubkey
  | nohkey
  | mode
  | seq
  | notag
  | len
  | busy
deriving DecidableEq, Repr

/-- What the outside world does next (10_state.md R22, 60_exceptions.md R260, 70_reset_and_hazards.md R290). -/
inductive Input where
  /-- The engine takes its turn (an engine step, enabled only when BUSY = 1). -/
  | engine
  /-- A host read of `size` bytes at byte offset `off`. -/
  | read (off size : Nat)
  /-- A host write of the low `size` bytes of `v` at byte offset `off`. -/
  | write (off size : Nat) (v : Word)
  /-- The reset input is asserted and released. -/
  | reset
deriving DecidableEq, Repr

/-- A value the host got back from a read (70_reset_and_hazards.md R307). -/
structure ReadRecord where
  off : Nat
  value : Word
deriving DecidableEq, Repr

/-- The machine. The first group is the state 10_state.md gives the engine; `params` are its fixed parameters
(00_scope.md R9); the last three fields are the model's own (log entries 2 and 3). -/
structure State where
  /-- CTRL bit 0, IE_DONE (10_state.md R26). -/
  ieDone : Bool
  /-- CTRL bit 1, IE_ERR (10_state.md R26). -/
  ieErr : Bool
  /-- STATUS bit 0, BUSY (10_state.md R27, R44). -/
  busy : Bool
  /-- STATUS bit 1, DONE (10_state.md R27, 60_exceptions.md R268). -/
  done : Bool
  /-- STATUS bit 2, ERR (10_state.md R27). -/
  err : Bool
  /-- STATUS bits 15:8, ERRCODE (10_state.md R27). -/
  errcode : Byte
  /-- ERRINFO (10_state.md R29). -/
  errinfo : Word
  /-- ALEN (10_state.md R30). -/
  alen : BitVec 64
  /-- MLEN (10_state.md R30). -/
  mlen : BitVec 64
  /-- KEY, 32 bytes (10_state.md R31). -/
  key : KeyBytes
  /-- NONCE, 12 bytes (10_state.md R32). -/
  nonce : Nonce
  /-- TAG (10_state.md R33). -/
  tag : Block
  /-- ACC (10_state.md R34). -/
  acc : Block
  /-- CTR (10_state.md R35). -/
  ctr : Block
  /-- DIN[0..7] (10_state.md R36). -/
  din : Vector Block 8
  /-- DOUT[0..7] (10_state.md R37). -/
  dout : Vector Block 8
  /-- MRK, the round keys of the master key (10_state.md R38). -/
  mrk : List Block
  /-- KV, MRK is valid (10_state.md R38). -/
  kv : Bool
  /-- MKSZ, the size of MRK's key (10_state.md R38). -/
  mksz : KeySize
  /-- H, the authentication subkey (10_state.md R39). -/
  h : Block
  /-- HV, H is valid (10_state.md R39). -/
  hv : Bool
  /-- EK, the encryption subkey (10_state.md R40). -/
  ek : KeyBytes
  /-- ERK, the round keys of EK (10_state.md R40). -/
  erk : List Block
  /-- EKSZ, the size of EK (10_state.md R40). -/
  eksz : KeySize
  /-- SV, EK and ERK are valid (10_state.md R40). -/
  sv : Bool
  /-- HTAB; entry k of 10_state.md R41 is element k-1. With PIPE = 0 it is never written (log entry 6). -/
  htab : Vector Block 6
  /-- PH (10_state.md R42). -/
  ph : Phase
  /-- HMODE (10_state.md R42). -/
  hmode : HashMode
  /-- APART (10_state.md R42). -/
  apart : Bool
  /-- MPART (10_state.md R42). -/
  mpart : Bool
  /-- TV (10_state.md R43). -/
  tv : Bool
  /-- CV (10_state.md R43). -/
  cv : Bool
  /-- CPART (10_state.md R43). -/
  cpart : Bool
  /-- PENDING, meaningful only while BUSY = 1 (10_state.md R44; log entry 5). -/
  pending : Word
  /-- PIPE and MAX_LEN_BYTES, fixed (00_scope.md R9; log entry 1). -/
  params : Params
  /-- The model's own: what the outside world does next, first element first (log entry 2). -/
  inputs : List Input
  /-- The model's own: what the host has read so far, newest first (log entry 2). -/
  reads : List ReadRecord
  /-- The model's own: how many free values have been drawn (log entry 3). -/
  draws : Nat
deriving DecidableEq, Repr

/-- The engine has no fault: an error is recorded and the engine goes on (60_exceptions.md R264, R270;
93_implementation_defined.md I10), so no step stops with one (log entry 9). -/
inductive Fault where
deriving DecidableEq, Repr

/-- Why the model has no next state. Only `exec`'s refused arms and the host-access check raise one; all are safe: the
machine stops where the spec says the model has no step (20_memory.md R61, log entry 4). -/
inductive Refusal where
  /-- A command without a meaning in this model, by its mnemonic; raised by `exec`; safe. -/
  | notModelled (mnemonic : String)
  /-- A host access that is not 4 bytes wide; raised by a host access; safe (20_memory.md R61). -/
  | accessSize (size : Nat)
  /-- A host access at an offset that is not a multiple of 4; raised by a host access; safe (20_memory.md R61). -/
  | accessMisaligned (off : Nat)
  /-- A host access at an offset above 0x1FC; raised by a host access; safe (20_memory.md R60, R61). -/
  | accessOutsideWindow (off : Nat)
deriving DecidableEq, Repr

/-- What one step answers. -/
abbrev Result := Host.Outcome State Fault Refusal

/-- The all-zero schedule of 10_state.md R46 and R47, at the size a cleared MKSZ or EKSZ names (log entry 7). -/
def zeroSchedule : List Block := List.replicate 11 0

/-- The reset values of 10_state.md R46, for an engine with the given parameters. -/
def State.resetWith (p : Params) : State where
  ieDone := false
  ieErr := false
  busy := false
  done := false
  err := false
  errcode := 0
  errinfo := 0
  alen := 0
  mlen := 0
  key := 0
  nonce := 0
  tag := 0
  acc := 0
  ctr := 0
  din := Vector.replicate 8 0
  dout := Vector.replicate 8 0
  mrk := zeroSchedule
  kv := false
  mksz := .aes128
  h := 0
  hv := false
  ek := 0
  erk := zeroSchedule
  eksz := .aes128
  sv := false
  htab := Vector.replicate 6 0
  ph := .idle
  hmode := .polyval
  apart := false
  mpart := false
  tv := false
  cv := false
  cpart := false
  pending := 0
  params := p
  inputs := []
  reads := []
  draws := 0

/-- The machine right after reset (70_reset_and_hazards.md R291), with the parameters of `Params.default`. -/
def State.reset : State := State.resetWith Params.default

end Sys2Proof.Machine
end

