-- ==== Sys2Proof/Machine/Flags.lean ====
section
/-! DEFINITION. Codes of the flags and errors, the STATUS word, the IRQ level, and the conditions the checks of the
commands test (10_state.md R25 to R27, 60_exceptions.md R261, R263, R269). -/

namespace Sys2Proof.Machine

/-- PH as bits (10_state.md R42). -/
def Phase.code : Phase → BitVec 2
  | .idle => 0
  | .aad => 1
  | .msg => 2
  | .final => 3

/-- ERRCODE values (60_exceptions.md R261). -/
def ErrCode.code : ErrCode → Byte
  | .illop => 0x01
  | .rsvd => 0x02
  | .keysz => 0x03
  | .nokey => 0x04
  | .nosubkey => 0x05
  | .nohkey => 0x06
  | .mode => 0x07
  | .seq => 0x08
  | .notag => 0x09
  | .len => 0x0A
  | .busy => 0x0B

/-- The error of a word that is no legal encoding (30_encoding.md R102). -/
def decodeErrCode : DecodeError → ErrCode
  | .illegal => .illop
  | .reserved => .rsvd
  | .keySize => .keysz

/-- The level of the IRQ output (60_exceptions.md R269). -/
def State.irq (s : State) : Bool := (s.done && s.ieDone) || (s.err && s.ieErr)

/-- The STATUS word (10_state.md R27), bit 31 on the left. -/
def State.statusWord (s : State) : Word :=
  0#4 ++ s.mksz.bit ++ BitVec.ofBool s.cpart ++ BitVec.ofBool s.cv ++ BitVec.ofBool s.mpart ++ BitVec.ofBool s.apart ++
    s.hmode.bit ++ s.ph.code ++ BitVec.ofBool s.tv ++ BitVec.ofBool s.hv ++ BitVec.ofBool s.sv ++ BitVec.ofBool s.kv ++
    s.errcode ++ 0#4 ++ BitVec.ofBool s.irq ++ BitVec.ofBool s.err ++ BitVec.ofBool s.done ++ BitVec.ofBool s.busy

/-- The CTRL word (10_state.md R26). -/
def State.ctrlWord (s : State) : Word := 0#30 ++ BitVec.ofBool s.ieErr ++ BitVec.ofBool s.ieDone

/-- The CAP word (10_state.md R25): AES256, AES128, GHASH and PIPE in bits 3 to 0. -/
def State.capWord (s : State) : Word := 0#28 ++ 1#1 ++ 1#1 ++ 1#1 ++ BitVec.ofBool s.params.pipe

/-- The first condition that holds names the error (60_exceptions.md R263); none when every check passes. -/
def firstError : List (Bool × ErrCode) → Option ErrCode
  | [] => none
  | (bad, e) :: rest => if bad then some e else firstError rest

/-- The check of a PIPE-only command: ILLOP if PIPE = 0 (60_exceptions.md R262). -/
def State.pipeAbsent (s : State) : Bool := !s.params.pipe

/-- The SEQ conditions of HUPD and HUPD6, in the order of 41_uhash.md R161. -/
def State.hashOrderBad (s : State) : HashClass → Bool
  | .aad => s.ph == .idle || s.ph == .final || s.ph == .msg || s.apart
  | .message => s.ph == .idle || s.ph == .final || s.mpart

/-- The LEN condition: the count of the class would exceed MAX_LEN_BYTES (41_uhash.md R163). -/
def State.lengthBad (s : State) (n : Nat) : HashClass → Bool
  | .aad => s.params.maxLenBytes < s.alen.toNat + n
  | .message => s.params.maxLenBytes < s.mlen.toNat + n

/-- The SEQ condition of HLEN (41_uhash.md R164). -/
def State.noOpenSession (s : State) : Bool := s.ph == .idle || s.ph == .final

/-- The SEQ condition of CTRX1, CTRX4 and CTRX8 (44_ctr.md R213, R214). -/
def State.counterBad (s : State) : Bool := !s.cv || s.cpart

end Sys2Proof.Machine
end

