-- ==== Sys2Proof/Machine/Bytes.lean ====
section
/-! DEFINITION. Byte and word access to fields, and the byte orders of 00_scope.md R11 to R13. -/

namespace Sys2Proof.Machine

/-- Byte i of a field (00_scope.md R11). -/
def byteAt {w : Nat} (b : BitVec w) (i : Nat) : Byte := b.extractLsb' (8 * i) 8

/-- The block whose first k bytes are f 0 … f (k-1) and whose other bytes are 0. -/
def blockOfBytesUpto (f : Nat → Byte) : Nat → Block
  | 0 => 0
  | k + 1 => blockOfBytesUpto f k ||| ((f k).setWidth 128 <<< (8 * k))

/-- The block with bytes f 0 … f 15. -/
def blockOfBytes (f : Nat → Byte) : Block := blockOfBytesUpto f 16

/-- B[0:n) || 0^(16-n): the first n bytes, zero bytes after them (00_scope.md R11). -/
def firstBytes (n : Nat) (b : Block) : Block := blockOfBytes fun i => if i < n then byteAt b i else 0

/-- The 16 bytes in reverse order: `rev` of 41_uhash.md R166, and the big-endian integer of R154. -/
def reverseBytes (b : Block) : Block := blockOfBytes fun i => byteAt b (15 - i)

/-- BE64(v): the 8-byte big-endian encoding (00_scope.md R12). LE64(v) is v itself in this packing. -/
def bigEndian64 (v : BitVec 64) : BitVec 64 :=
  byteAt v 0 ++ byteAt v 1 ++ byteAt v 2 ++ byteAt v 3 ++ byteAt v 4 ++ byteAt v 5 ++ byteAt v 6 ++ byteAt v 7

/-- Bytes 0 to 7 of a block: the "low 8 bytes" of 42_kdf.md R192. -/
def lowHalf (b : Block) : BitVec 64 := b.extractLsb' 0 64

/-- Word i of a field: bytes 4i to 4i+3 (20_memory.md R62). -/
def wordAt {w : Nat} (b : BitVec w) (i : Nat) : Word := b.extractLsb' (32 * i) 32

/-- The field with word i replaced by v (20_memory.md R62). -/
def setWordAt {w : Nat} (b : BitVec w) (i : Nat) (v : Word) : BitVec w :=
  (b &&& ~~~((BitVec.allOnes 32).setWidth w <<< (32 * i))) ||| (v.setWidth w <<< (32 * i))

/-- The block with the most significant bit of byte 15 forced to 1 (44_ctr.md R210). -/
def setTopBit (b : Block) : Block := b ||| (1#128 <<< 127)

/-- The block with the most significant bit of byte 15 cleared: byte 15 AND 0x7F (43_tag.md R200). -/
def clearTopBit (b : Block) : Block := b &&& ~~~(1#128 <<< 127)

end Sys2Proof.Machine
end

