-- ==== Sys2Proof/Machine/Cipher.lean ====
section
/-! DEFINITION. The AES cipher and key expansion (40_aes.md R120 to R127). -/

namespace Sys2Proof.Machine

/-- Row `hi` of the S-box table of 40_aes.md R123, columns 0 to F from left to right. -/
def sboxRows : List (BitVec 128) :=
  [0x637c777bf26b6fc53001672bfed7ab76, 0xca82c97dfa5947f0add4a2af9ca472c0,
   0xb7fd9326363ff7cc34a5e5f171d83115, 0x04c723c31896059a071280e2eb27b275] ++
  [0x09832c1a1b6e5aa0523bd6b329e32f84, 0x53d100ed20fcb15b6acbbe394a4c58cf,
   0xd0efaafb434d338545f9027f503c9fa8, 0x51a3408f929d38f5bcb6da2110fff3d2] ++
  [0xcd0c13ec5f974417c4a77e3d645d1973, 0x60814fdc222a908846eeb814de5e0bdb,
   0xe0323a0a4906245cc2d3ac629195e479, 0xe7c8376d8dd54ea96c56f4ea657aae08] ++
  [0xba78252e1ca6b4c6e8dd741f4bbd8b8a, 0x703eb5664803f60e613557b986c11d9e,
   0xe1f8981169d98e949b1e87e9ce5528df, 0x8ca1890dbfe6426841992d0fb054bb16]

/-- SBOX[x] (40_aes.md R123): row = high nibble, column = low nibble. -/
def sbox (x : Byte) : Byte := byteAt (sboxRows.getD (x >>> 4).toNat 0) (15 - (x &&& 0x0F).toNat)

/-- xtime: multiplication by 2 in GF(2^8) modulo 0x11B (40_aes.md R127). -/
def xtime (a : Byte) : Byte := (a <<< 1) ^^^ (if a.getLsbD 7 then 0x1B else 0)

/-- SubBytes (40_aes.md R123). -/
def subBytes (s : Block) : Block := blockOfBytes fun i => sbox (byteAt s i)

/-- ShiftRows: s'[r][c] = s[r][(c + r) mod 4], with s[r][c] byte r + 4c (40_aes.md R121, R126). -/
def shiftRows (s : Block) : Block := blockOfBytes fun i => byteAt s (i % 4 + 4 * ((i / 4 + i % 4) % 4))

/-- Row r of MixColumns on a column given by its four bytes, a k being the byte k rows below r (40_aes.md R127):
2·a 0 ⊕ 3·a 1 ⊕ a 2 ⊕ a 3. -/
def mixByte (a0 a1 a2 a3 : Byte) : Byte := xtime a0 ^^^ (xtime a1 ^^^ a1) ^^^ a2 ^^^ a3

/-- MixColumns (40_aes.md R127). -/
def mixColumns (s : Block) : Block :=
  blockOfBytes fun i =>
    mixByte (byteAt s (4 * (i / 4) + i % 4)) (byteAt s (4 * (i / 4) + (i % 4 + 1) % 4))
      (byteAt s (4 * (i / 4) + (i % 4 + 2) % 4)) (byteAt s (4 * (i / 4) + (i % 4 + 3) % 4))

/-- The rounds of the cipher on the round keys after RK[0]: the last one has no MixColumns (40_aes.md R122). -/
def aesRounds : List Block → Block → Block
  | [], s => s
  | [k], s => shiftRows (subBytes s) ^^^ k
  | k :: k' :: ks, s => aesRounds (k' :: ks) (mixColumns (shiftRows (subBytes s)) ^^^ k)

/-- AES(RK, B) (40_aes.md R122), for a schedule RK of Nr + 1 round keys. -/
def aes : List Block → Block → Block
  | [], b => b
  | k :: ks, b => aesRounds ks (b ^^^ k)

/-- SubWord (40_aes.md R124). -/
def subWord (w : Word) : Word := sbox (byteAt w 3) ++ sbox (byteAt w 2) ++ sbox (byteAt w 1) ++ sbox (byteAt w 0)

/-- RotWord(a0,a1,a2,a3) = (a1,a2,a3,a0) (40_aes.md R124). -/
def rotWord (w : Word) : Word := byteAt w 0 ++ byteAt w 3 ++ byteAt w 2 ++ byteAt w 1

/-- Rcon[j] (40_aes.md R125): Rcon[1] = 01 and Rcon[j+1] = xtime(Rcon[j]). -/
def rcon : Nat → Byte
  | 0 => 0
  | 1 => 1
  | j + 2 => xtime (rcon (j + 1))

/-- Nk: the key length in words (40_aes.md R124). -/
def keyWords : KeySize → Nat
  | .aes128 => 4
  | .aes256 => 8

/-- Nr: the number of rounds (40_aes.md R120). -/
def roundCount : KeySize → Nat
  | .aes128 => 10
  | .aes256 => 14

/-- w[i] of KeyExpansion, from the words before it, w[i-1] first (40_aes.md R124). -/
def nextKeyWord (nk i : Nat) (before : List Word) : Word :=
  let t := before.getD 0 0
  let u :=
    if i % nk = 0 then subWord (rotWord t) ^^^ (rcon (i / nk)).setWidth 32
    else if nk = 8 ∧ i % nk = 4 then subWord t
    else t
  before.getD (nk - 1) 0 ^^^ u

/-- `count` further words of KeyExpansion from index i on, newest first. -/
def expandKeyWords (nk : Nat) : Nat → Nat → List Word → List Word
  | 0, _, ws => ws
  | count + 1, i, ws => expandKeyWords nk count (i + 1) (nextKeyWord nk i ws :: ws)

/-- RK[r] = w[4r] || w[4r+1] || w[4r+2] || w[4r+3] (40_aes.md R124). -/
def roundKeysOfWords : List Word → List Block
  | a :: b :: c :: d :: rest => (d ++ c ++ b ++ a) :: roundKeysOfWords rest
  | [] => []
  | [_] => []
  | [_, _] => []
  | [_, _, _] => []

/-- KeyExpansion(K[0:L)) with L = 16 or 32 by the key size (40_aes.md R124). -/
def keyExpansion (ksz : KeySize) (k : KeyBytes) : List Block :=
  let nk := keyWords ksz
  let first := ((List.range nk).map fun i => wordAt k i).reverse
  roundKeysOfWords (expandKeyWords nk (4 * (roundCount ksz + 1) - nk) nk first).reverse

end Sys2Proof.Machine
end

