-- ==== Sys2Proof/Machine/Field.lean ====
section
/-! DEFINITION. The POLYVAL and GHASH products and the hash update (41_uhash.md R151 to R158). -/

namespace Sys2Proof.Machine

/-- The XOR of a << i over every i < k with b[i] = 1 (41_uhash.md R153). -/
def clmulUpto (a b : Block) : Nat → BitVec 256
  | 0 => 0
  | k + 1 => clmulUpto a b k ^^^ (if b.getLsbD k then a.setWidth 256 <<< k else 0)

/-- clmul(a, b), the carry-less product (41_uhash.md R153). -/
def clmul (a b : Block) : BitVec 256 := clmulUpto a b 128

/-- P = 2^128 + 2^127 + 2^126 + 2^121 + 1 (41_uhash.md R153). -/
def polyvalModulus : BitVec 256 := 0x1C2000000000000000000000000000001

/-- One turn of the reduction loop of 41_uhash.md R153. -/
def montgomeryStep (r : BitVec 256) : BitVec 256 := (if r.getLsbD 0 then r ^^^ polyvalModulus else r) >>> 1

/-- The reduction loop of 41_uhash.md R153, k turns. -/
def montgomery : Nat → BitVec 256 → BitVec 256
  | 0, r => r
  | k + 1, r => montgomery k (montgomeryStep r)

/-- Dot(A, B), the POLYVAL product (41_uhash.md R153). -/
def dot (a b : Block) : Block := (montgomery 128 (clmul a b)).setWidth 128

/-- V after one turn of the loop of 41_uhash.md R154: V times x in the GHASH field. -/
def ghashShift (v : Block) : Block := if v.getLsbD 0 then (v >>> 1) ^^^ (0xE1#128 <<< 120) else v >>> 1

/-- The loop of 41_uhash.md R154 on big-endian integers: `k` turns remain, and the next bit of X is bit k-1. -/
def ghashLoop (x : Block) : Nat → Block → Block → Block
  | 0, z, _ => z
  | k + 1, z, v => ghashLoop x k (if x.getLsbD k then z ^^^ v else z) (ghashShift v)

/-- GMul(X, Y), the GHASH product (41_uhash.md R154). -/
def gmul (x y : Block) : Block := reverseBytes (ghashLoop (reverseBytes x) 128 0 (reverseBytes y))

/-- Mul(m, A, B) (41_uhash.md R155). -/
def hashMul : HashMode → Block → Block → Block
  | .polyval, a, b => dot a b
  | .ghash, a, b => gmul a b

/-- Upd(m, S, X) with key H (41_uhash.md R155). -/
def hashUpd (m : HashMode) (h s x : Block) : Block := hashMul m (s ^^^ x) h

/-- The Horner fold of 41_uhash.md R156: blocks first to last. -/
def hashFold (m : HashMode) (h : Block) : Block → List Block → Block
  | s, [] => s
  | s, x :: xs => hashFold m h (hashUpd m h s x) xs

/-- H^(k+1): H, then one more product by H each time (41_uhash.md R157). -/
def hashPower (m : HashMode) (h : Block) : Nat → Block
  | 0 => h
  | k + 1 => hashMul m (hashPower m h k) h

/-- HTAB[1..6] = H^1 … H^6 (41_uhash.md R157). -/
def hashTable (m : HashMode) (h : Block) : Vector Block 6 :=
  #v[hashPower m h 0, hashPower m h 1, hashPower m h 2, hashPower m h 3, hashPower m h 4, hashPower m h 5]

end Sys2Proof.Machine
end

