-- ==== Sys2Proof/Machine/Operands.lean ====
section
/-! DEFINITION. Every operand form of the commands: what the fields SLOT, SRC, KSEL and NB name (30_encoding.md R93 to
R100), and the values the commands build from state (42_kdf.md R191, R192; 43_tag.md R200; 44_ctr.md R210, R211;
41_uhash.md R164). -/

namespace Sys2Proof.Machine

/-- The slots SRC names: 0 DIN, 1 DOUT (30_encoding.md R96). -/
def State.sourceSlots (s : State) : DataSource → Vector Block 8
  | .din => s.din
  | .dout => s.dout

/-- The block HUPD absorbs: the first n bytes of the source slot, zero padded (41_uhash.md R161). -/
def State.hashBlock (s : State) (src : DataSource) (slot : Fin 8) (n : Nat) : Block :=
  firstBytes n (s.sourceSlots src)[slot]

/-- The six blocks HUPD6 absorbs, slots 0 to 5 in order (41_uhash.md R162). -/
def State.sixBlocks (s : State) (src : DataSource) : List Block :=
  let v := s.sourceSlots src
  [v[0], v[1], v[2], v[3], v[4], v[5]]

/-- The schedule KSEL names: 0 MRK, 1 ERK (30_encoding.md R98). -/
def State.schedule (s : State) : KeySelect → List Block
  | .mrk => s.mrk
  | .erk => s.erk

/-- The schedule KSEL names is not valid (40_aes.md R129). -/
def State.scheduleInvalid (s : State) : KeySelect → Bool
  | .mrk => !s.kv
  | .erk => !s.sv

/-- The counter seed SRC names: 0 TAG, 1 DIN[0] (30_encoding.md R96, 44_ctr.md R212). -/
def State.seed (s : State) : SeedSource → Block
  | .tag => s.tag
  | .din => s.din[0]

/-- The length block of HLEN in the session's mode (41_uhash.md R164): LE64 or BE64 of the two bit counts, AAD first. -/
def State.lengthBlock (s : State) : Block :=
  match s.hmode with
  | .polyval => (8 * s.mlen) ++ (8 * s.alen)
  | .ghash => bigEndian64 (8 * s.mlen) ++ bigEndian64 (8 * s.alen)

/-- KDF block i: LE32(i) || NONCE (42_kdf.md R191). -/
def kdfBlock (nonce : Nonce) (i : Nat) : Block := nonce ++ BitVec.ofNat 32 i

/-- E[i][0:8): the low 8 bytes of the encrypted KDF block i (42_kdf.md R190, R192). -/
def State.kdfHalf (s : State) (i : Nat) : BitVec 64 := lowHalf (aes s.mrk (kdfBlock s.nonce i))

/-- The authentication subkey KDF derives (42_kdf.md R190). -/
def State.derivedH (s : State) : Block := s.kdfHalf 1 ++ s.kdfHalf 0

/-- The encryption subkey KDF derives, its unused bytes zero (42_kdf.md R190). -/
def State.derivedEK (s : State) : KeyBytes :=
  match s.mksz with
  | .aes128 => 0#128 ++ s.kdfHalf 3 ++ s.kdfHalf 2
  | .aes256 => s.kdfHalf 5 ++ s.kdfHalf 4 ++ s.kdfHalf 3 ++ s.kdfHalf 2

/-- The pre-tag: ACC with NONCE XORed into bytes 0 to 11 and the top bit of byte 15 cleared (43_tag.md R200). -/
def State.preTag (s : State) : Block := clearTopBit (s.acc ^^^ s.nonce.setWidth 128)

/-- Inc(C): the low 32 bits, little-endian, plus 1 modulo 2^32; bytes 4 to 15 unchanged (44_ctr.md R211). -/
def inc (c : Block) : Block := c.extractLsb' 32 96 ++ (c.extractLsb' 0 32 + 1)

/-- Inc^k(C) (00_scope.md R14). -/
def incBy : Nat → Block → Block
  | 0, c => c
  | k + 1, c => incBy k (inc c)

/-- Keystream block k of the current counter: AES(ERK, Inc^k(CTR)) (44_ctr.md R211). -/
def State.keystream (s : State) (k : Nat) : Block := aes s.erk (incBy k s.ctr)

end Sys2Proof.Machine
end

