-- ==== Sys2Proof/Machine/Ops.lean ====
section
/-! DEFINITION. The named operations the commands share: the clear operations (10_state.md R47), taking an error and
returning from one (60_exceptions.md R264, R267), acceptance and completion (10_state.md R28, 60_exceptions.md R260). -/

namespace Sys2Proof.Machine

/-! ## Clear operations -/

/-- HashClear() (10_state.md R47). -/
def State.hashClear (s : State) : State :=
  { s with acc := 0, alen := 0, mlen := 0, apart := false, mpart := false, ph := .idle, hmode := .polyval,
           htab := Vector.replicate 6 0 }

/-- CtrClear() (10_state.md R47). -/
def State.ctrClear (s : State) : State :=
  { s with tag := 0, tv := false, ctr := 0, cv := false, cpart := false }

/-- SubkeyClear() (10_state.md R47). -/
def State.subkeyClear (s : State) : State :=
  { s with h := 0, hv := false, ek := 0, erk := zeroSchedule, sv := false, eksz := .aes128 }

/-- DataClear() (10_state.md R47). -/
def State.dataClear (s : State) : State :=
  { s with din := Vector.replicate 8 0, dout := Vector.replicate 8 0, nonce := 0 }

/-- MasterClear() (10_state.md R47). -/
def State.masterClear (s : State) : State :=
  { s with key := 0, mrk := zeroSchedule, kv := false, mksz := .aes128 }

/-! ## Taking an error, and returning from one -/

/-- RecordError(code, info): exactly ERR, ERRCODE and ERRINFO are written (60_exceptions.md R264). -/
def State.recordError (s : State) (e : ErrCode) (info : Word) : State :=
  { s with err := true, errcode := e.code, errinfo := info }

/-- The engine step that rejects the pending command: the error is recorded with the command word, and BUSY clears
(60_exceptions.md R260, R264). -/
def State.reject (s : State) (e : ErrCode) : State :=
  { s.recordError e s.pending with busy := false }

/-- Clearing ERR, and with it ERRCODE and ERRINFO: the return from an error (10_state.md R27, 60_exceptions.md R267,
R271). -/
def State.clearError (s : State) : State := { s with err := false, errcode := 0, errinfo := 0 }

/-- Clearing DONE (60_exceptions.md R267, R268). -/
def State.clearDone (s : State) : State := { s with done := false }

/-! ## The life of a command -/

/-- A command word is accepted (10_state.md R28). -/
def State.accept (s : State) (w : Word) : State := { s with pending := w, busy := true, done := false }

/-- The engine step that completed a command (60_exceptions.md R260, R268). -/
def State.complete (s : State) : State := { s with busy := false, done := true }

/-- An engine step on a legal command: its checks in the order of 60_exceptions.md R263, then either the error alone or
the whole effect (R260). -/
def runCommand (checks : List (Bool × ErrCode)) (effect : State → State) (s : State) : Result :=
  match firstError checks with
  | some e => .next (s.reject e)
  | none => .next (effect s).complete

/-- The model's own input list replaced (log entry 2). -/
def State.setInputs (s : State) (l : List Input) : State := { s with inputs := l }

/-! ## Shared effects -/

/-- n more bytes of a class have been absorbed (41_uhash.md R161, R162): the count, and PH = MSG for message data. -/
def State.countBytes (s : State) (n : Nat) : HashClass → State
  | .aad => { s with alen := s.alen + BitVec.ofNat 64 n }
  | .message => { s with mlen := s.mlen + BitVec.ofNat 64 n, ph := .msg }

/-- A block shorter than 16 bytes closes its class (41_uhash.md R161). -/
def State.markPartial (s : State) (n : Nat) : HashClass → State
  | .aad => { s with apart := s.apart || decide (n < 16) }
  | .message => { s with mpart := s.mpart || decide (n < 16) }

/-- DIN XOR keystream on the first `lanes` slots, slot k with Inc^k(CTR); the other DOUT slots are unchanged; CTR
advances by `lanes` (44_ctr.md R214, R215). -/
def State.cryptLanes (s : State) (lanes : Nat) : State :=
  { s with dout := Vector.ofFn fun j => if j.val < lanes then s.din[j] ^^^ s.keystream j.val else s.dout[j],
           ctr := incBy lanes s.ctr }

end Sys2Proof.Machine
end

