-- ==== Sys2Proof/Machine/Bus.lean ====
section
/-! DEFINITION. The register window: its map, and the effect of a host read and a host write of one word
(10_state.md R23 to R37, 20_memory.md R60 to R73, 60_exceptions.md R265 to R267, 70_reset_and_hazards.md R294, R295). -/

namespace Sys2Proof.Machine

/-- The registers of the window; i is the word index inside a field, j the slot (10_state.md R23). -/
inductive Reg where
  | id
  | cap
  | ctrl
  | status
  | cmd
  | errinfo
  | alen (i : Nat)
  | mlen (i : Nat)
  | key (i : Nat)
  | nonce (i : Nat)
  | tag (i : Nat)
  | acc (i : Nat)
  | ctr (i : Nat)
  | din (j : Fin 8) (i : Nat)
  | dout (j : Fin 8) (i : Nat)
  | reserved
deriving DecidableEq, Repr

/-- The register at a byte offset that is a multiple of 4 below 0x200 (10_state.md R23, 20_memory.md R68). -/
def Reg.atOffset (off : Nat) : Reg :=
  if off < 0x004 then .id
  else if off < 0x008 then .cap
  else if off < 0x00C then .ctrl
  else if off < 0x010 then .status
  else if off < 0x014 then .cmd
  else if off < 0x018 then .errinfo
  else if off < 0x020 then .alen ((off - 0x018) / 4)
  else if off < 0x028 then .mlen ((off - 0x020) / 4)
  else if off < 0x040 then .reserved
  else if off < 0x060 then .key ((off - 0x040) / 4)
  else if off < 0x06C then .nonce ((off - 0x060) / 4)
  else if off < 0x070 then .reserved
  else if off < 0x080 then .tag ((off - 0x070) / 4)
  else if off < 0x090 then .acc ((off - 0x080) / 4)
  else if off < 0x0A0 then .ctr ((off - 0x090) / 4)
  else if off < 0x100 then .reserved
  else if off < 0x180 then .din (Fin.ofNat 8 ((off - 0x100) / 16)) ((off - 0x100) % 16 / 4)
  else .dout (Fin.ofNat 8 ((off - 0x180) / 16)) ((off - 0x180) % 16 / 4)

/-- The constant of ID (10_state.md R24). -/
def idWord : Word := 0x47535631

/-- The current value of a register as a read shows it: write-only registers and reserved offsets read 0
(10_state.md R23, R28, R31; 20_memory.md R62, R68). -/
def State.regValue (s : State) : Reg → Word
  | .id => idWord
  | .cap => s.capWord
  | .ctrl => s.ctrlWord
  | .status => s.statusWord
  | .cmd => 0
  | .errinfo => s.errinfo
  | .alen i => wordAt s.alen i
  | .mlen i => wordAt s.mlen i
  | .key _ => 0
  | .nonce i => wordAt s.nonce i
  | .tag i => wordAt s.tag i
  | .acc i => wordAt s.acc i
  | .ctr i => wordAt s.ctr i
  | .din j i => wordAt s.din[j] i
  | .dout j i => wordAt s.dout[j] i
  | .reserved => 0

/-- The bits of a register that a read while BUSY = 1 returns as any value (70_reset_and_hazards.md R295). -/
def Reg.drawnBits : Reg → Word
  | .alen _ => 0xFFFFFFFF
  | .mlen _ => 0xFFFFFFFF
  | .tag _ => 0xFFFFFFFF
  | .acc _ => 0xFFFFFFFF
  | .ctr _ => 0xFFFFFFFF
  | .dout _ _ => 0xFFFFFFFF
  | .status => 0x0FFF0000
  | .id => 0
  | .cap => 0
  | .ctrl => 0
  | .cmd => 0
  | .errinfo => 0
  | .key _ => 0
  | .nonce _ => 0
  | .din _ _ => 0
  | .reserved => 0

/-- Any value in the bits of `mask`, the value itself elsewhere. -/
def drawBits (mask v free : Word) : Word := (v &&& ~~~mask) ||| (free &&& mask)

/-- What a host read of register r returns (70_reset_and_hazards.md R295): while BUSY = 1 the drawn bits are a free
value (log entry 3), the next one the machine has not used. -/
def State.readValue (s : State) (r : Reg) : Word :=
  if s.busy then drawBits r.drawnBits (s.regValue r) (Config.freeWord s.draws) else s.regValue r

/-- MemRead(off, 4) at an aligned offset of the window: the value goes to the host, and no state of the engine changes
(20_memory.md R61, R67). A read while BUSY = 1 uses up one free value. -/
def State.hostRead (s : State) (off : Nat) : State :=
  { s with reads := ⟨off, s.readValue (Reg.atOffset off)⟩ :: s.reads,
           draws := if s.busy then s.draws + 1 else s.draws }

/-- A write of v to STATUS (10_state.md R27): bit 1 clears DONE, bit 2 clears ERR with ERRCODE and ERRINFO. -/
def State.writeStatus (s : State) (v : Word) : State :=
  let s1 := if v.getLsbD 1 then s.clearDone else s
  if v.getLsbD 2 then s1.clearError else s1

/-- A write of v to CTRL (10_state.md R26). -/
def State.writeCtrl (s : State) (v : Word) : State := { s with ieDone := v.getLsbD 0, ieErr := v.getLsbD 1 }

/-- A command issue while BUSY = 0 (10_state.md R28): discarded while ERR = 1 unless it is ZERO, else accepted. -/
def State.issue (s : State) (w : Word) : State :=
  if s.err && opField w != Op.zero.byte then s else s.accept w

/-- The registers whose write while BUSY = 1 is the BUSY error (60_exceptions.md R266). -/
def Reg.busyGuarded : Reg → Bool
  | .cmd => true
  | .key _ => true
  | .nonce _ => true
  | .din _ _ => true
  | .id | .cap | .ctrl | .status | .errinfo | .alen _ | .mlen _ | .tag _ | .acc _ | .ctr _ | .dout _ _ | .reserved =>
    false

/-- The effect of a write that is performed; a write to a read-only register or a reserved offset is ignored
(10_state.md R23, R26 to R28, R31, R32, R36; 20_memory.md R67, R68). -/
def State.writeReg (s : State) (v : Word) : Reg → State
  | .ctrl => s.writeCtrl v
  | .status => s.writeStatus v
  | .cmd => s.issue v
  | .key i => { s with key := setWordAt s.key i v }
  | .nonce i => { s with nonce := setWordAt s.nonce i v }
  | .din j i => { s with din := s.din.set j (setWordAt s.din[j] i v) }
  | .id | .cap | .errinfo | .alen _ | .mlen _ | .tag _ | .acc _ | .ctr _ | .dout _ _ | .reserved => s

/-- MemWrite(off, 4, v) at an aligned offset of the window (20_memory.md R61): while BUSY = 1 a guarded register is not
written and the BUSY error is recorded with the offset (60_exceptions.md R266). -/
def State.hostWrite (s : State) (off : Nat) (v : Word) : State :=
  let r := Reg.atOffset off
  if s.busy && r.busyGuarded then s.recordError .busy (BitVec.ofNat 32 off) else s.writeReg v r

/-- The model has no step for an access of another size, at an offset that is not a multiple of 4, or outside the window
(20_memory.md R61; log entry 4). -/
def accessRefusal (off size : Nat) : Option Refusal :=
  if size ≠ 4 then some (.accessSize size)
  else if off % 4 ≠ 0 then some (.accessMisaligned off)
  else if 0x200 ≤ off then some (.accessOutsideWindow off)
  else none

/-- A host access: refused, or performed. -/
def hostAccess (off size : Nat) (performed : State) : Result :=
  match accessRefusal off size with
  | some r => .refused r
  | none => .next performed

/-- The reset input (70_reset_and_hazards.md R290): every piece of the engine's state takes its reset value. What the
outside world does next, what the host has read and the count of draws are no state of the engine (log entry 8). -/
def State.resetPulse (s : State) : State :=
  { State.resetWith s.params with inputs := s.inputs, reads := s.reads, draws := s.draws }

end Sys2Proof.Machine
end

