-- ==== Sys2Proof/Machine/Aes.lean ====
section
/-! DEFINITION. The AES unit's commands KEXP and AESE (40_aes.md R128, R129). -/

namespace Sys2Proof.Machine

/-- What KEXP does (40_aes.md R128); KEY is not touched by the clear operations. -/
def State.kexpEffect (s : State) (ksz : KeySize) : State :=
  { s.subkeyClear.hashClear.ctrClear with mrk := keyExpansion ksz s.key, mksz := ksz, kv := true }

/-- KEXP (40_aes.md R128). KSZ 2 and 3 are no instruction: the decoder rejects them with KEYSZ. -/
def execKexp (ksz : KeySize) (s : State) : Result := runCommand [] (fun s => s.kexpEffect ksz) s

/-- The error AESE raises when its schedule is not valid (40_aes.md R129). -/
def aeseKeyError : KeySelect → ErrCode
  | .mrk => .nokey
  | .erk => .nosubkey

/-- The check of AESE (40_aes.md R129). -/
def State.aeseChecks (s : State) (ksel : KeySelect) : List (Bool × ErrCode) :=
  [(s.scheduleInvalid ksel, aeseKeyError ksel)]

/-- What AESE does (40_aes.md R129). -/
def State.aeseEffect (s : State) (ksel : KeySelect) (slot : Fin 8) : State :=
  { s with dout := s.dout.set slot (aes (s.schedule ksel) s.din[slot]) }

/-- AESE (40_aes.md R129). -/
def execAese (ksel : KeySelect) (slot : Fin 8) (s : State) : Result :=
  runCommand (s.aeseChecks ksel) (fun s => s.aeseEffect ksel slot) s

end Sys2Proof.Machine
end

