-- ==== Sys2Proof/Machine/Control.lean ====
section
/-! DEFINITION. The control commands NOP and ZERO (45_control.md R240, R241). -/

namespace Sys2Proof.Machine

/-- NOP (45_control.md R240). -/
def execNop (s : State) : Result := runCommand [] (fun s => s) s

/-- What ZERO clears (45_control.md R241). -/
def State.zeroise (s : State) : ZeroScope → State
  | .ephemeral => s.subkeyClear.hashClear.ctrClear.dataClear
  | .all => s.subkeyClear.hashClear.ctrClear.dataClear.masterClear

/-- ZERO (45_control.md R241). -/
def execZero (scope : ZeroScope) (s : State) : Result := runCommand [] (fun s => s.zeroise scope) s

end Sys2Proof.Machine
end

