-- ==== Sys2Proof/Machine/Ctr.lean ====
section
/-! DEFINITION. The CTR unit's commands CTRI, CTRX1, CTRX4 and CTRX8 (44_ctr.md R210 to R219). -/

namespace Sys2Proof.Machine

/-- NOTAG: the seed is TAG and TAG is not valid (44_ctr.md R212). -/
def State.seedMissing (s : State) : SeedSource → Bool
  | .tag => !s.tv
  | .din => false

/-- The check of CTRI (44_ctr.md R212). -/
def State.ctriChecks (s : State) (src : SeedSource) : List (Bool × ErrCode) := [(s.seedMissing src, .notag)]

/-- What CTRI does (44_ctr.md R212). -/
def State.ctriEffect (s : State) (src : SeedSource) : State :=
  { s with ctr := setTopBit (s.seed src), cv := true, cpart := false }

/-- CTRI (44_ctr.md R212). -/
def execCtri (src : SeedSource) (s : State) : Result := runCommand (s.ctriChecks src) (fun s => s.ctriEffect src) s

/-- The checks of CTRX1 in order (44_ctr.md R213). -/
def State.ctrx1Checks (s : State) : List (Bool × ErrCode) := [(!s.sv, .nosubkey), (s.counterBad, .seq)]

/-- What CTRX1 does: the first n bytes are DIN XOR keystream, the others 0 (44_ctr.md R213). -/
def State.ctrx1Effect (s : State) (slot : Fin 8) (n : Nat) : State :=
  { s with dout := s.dout.set slot (firstBytes n (s.din[slot] ^^^ s.keystream 0)), ctr := inc s.ctr,
           cpart := s.cpart || decide (n < 16) }

/-- CTRX1 (44_ctr.md R213). -/
def execCtrx1 (slot : Fin 8) (n : Nat) (s : State) : Result :=
  runCommand s.ctrx1Checks (fun s => s.ctrx1Effect slot n) s

/-- The checks of CTRX4 and CTRX8 in order (44_ctr.md R214, R215). -/
def State.ctrxBatchChecks (s : State) : List (Bool × ErrCode) :=
  [(s.pipeAbsent, .illop), (!s.sv, .nosubkey), (s.counterBad, .seq)]

/-- CTRX4 (44_ctr.md R214). -/
def execCtrx4 (s : State) : Result := runCommand s.ctrxBatchChecks (fun s => s.cryptLanes 4) s

/-- CTRX8 (44_ctr.md R215). -/
def execCtrx8 (s : State) : Result := runCommand s.ctrxBatchChecks (fun s => s.cryptLanes 8) s

end Sys2Proof.Machine
end

