-- ==== Sys2Proof/Machine/Kdf.lean ====
section
/-! DEFINITION. The key derivation command KDF (42_kdf.md R190 to R193). -/

namespace Sys2Proof.Machine

/-- The check of KDF (42_kdf.md R190). -/
def State.kdfChecks (s : State) : List (Bool × ErrCode) := [(!s.kv, .nokey)]

/-- What KDF does (42_kdf.md R190). Its inputs MRK, MKSZ and NONCE are not touched by HashClear and CtrClear. -/
def State.kdfEffect (s : State) : State :=
  { s.hashClear.ctrClear with h := s.derivedH, ek := s.derivedEK, erk := keyExpansion s.mksz s.derivedEK,
                              eksz := s.mksz, hv := true, sv := true }

/-- KDF (42_kdf.md R190). -/
def execKdf (s : State) : Result := runCommand s.kdfChecks State.kdfEffect s

end Sys2Proof.Machine
end

