-- ==== Sys2Proof/Machine/Tag.lean ====
section
/-! DEFINITION. The tag finalisation command TAGF (43_tag.md R200 to R203). -/

namespace Sys2Proof.Machine

/-- The checks of TAGF in order (43_tag.md R201). -/
def State.tagfChecks (s : State) : List (Bool × ErrCode) :=
  [(!s.sv, .nosubkey), (s.hmode == .ghash, .mode), (s.ph != .final, .seq)]

/-- What TAGF does (43_tag.md R201). -/
def State.tagfEffect (s : State) : State := { s with tag := aes s.erk s.preTag, tv := true }

/-- TAGF (43_tag.md R201). -/
def execTagf (s : State) : Result := runCommand s.tagfChecks State.tagfEffect s

end Sys2Proof.Machine
end

