-- ==== Sys2Proof/Machine/Uhash.lean ====
section
/-! DEFINITION. The UHASH unit's commands HKEY, HINIT, HUPD, HUPD6 and HLEN (41_uhash.md R159 to R165). -/

namespace Sys2Proof.Machine

/-- What HKEY does (41_uhash.md R159). -/
def State.hkeyEffect (s : State) (slot : Fin 8) : State := { s.hashClear with h := s.din[slot], hv := true }

/-- HKEY (41_uhash.md R159). -/
def execHkey (slot : Fin 8) (s : State) : Result := runCommand [] (fun s => s.hkeyEffect slot) s

/-- The check of HINIT (41_uhash.md R160). -/
def State.hinitChecks (s : State) : List (Bool × ErrCode) := [(!s.hv, .nohkey)]

/-- The hash table HINIT leaves: the powers of H when PIPE = 1, no table when PIPE = 0 (41_uhash.md R157, R160). -/
def State.initTable (s : State) (hm : HashMode) : Vector Block 6 :=
  if s.params.pipe then hashTable hm s.h else Vector.replicate 6 0

/-- What HINIT does (41_uhash.md R160). -/
def State.hinitEffect (s : State) (hm : HashMode) : State :=
  { s.hashClear with hmode := hm, ph := .aad, htab := s.initTable hm }

/-- HINIT (41_uhash.md R160). -/
def execHinit (hm : HashMode) (s : State) : Result := runCommand s.hinitChecks (fun s => s.hinitEffect hm) s

/-- The checks of HUPD, SEQ before LEN (41_uhash.md R161). -/
def State.hupdChecks (s : State) (cls : HashClass) (n : Nat) : List (Bool × ErrCode) :=
  [(s.hashOrderBad cls, .seq), (s.lengthBad n cls, .len)]

/-- What HUPD does (41_uhash.md R161). -/
def State.hupdEffect (s : State) (cls : HashClass) (src : DataSource) (slot : Fin 8) (n : Nat) : State :=
  ({ s with acc := hashUpd s.hmode s.h s.acc (s.hashBlock src slot n) }.countBytes n cls).markPartial n cls

/-- HUPD (41_uhash.md R161). -/
def execHupd (cls : HashClass) (src : DataSource) (slot : Fin 8) (n : Nat) (s : State) : Result :=
  runCommand (s.hupdChecks cls n) (fun s => s.hupdEffect cls src slot n) s

/-- The checks of HUPD6: ILLOP, then those of HUPD for 96 bytes (41_uhash.md R162). -/
def State.hupd6Checks (s : State) (cls : HashClass) : List (Bool × ErrCode) :=
  [(s.pipeAbsent, .illop), (s.hashOrderBad cls, .seq), (s.lengthBad 96 cls, .len)]

/-- What HUPD6 does: the left side of 41_uhash.md R158, six Horner steps (R162). -/
def State.hupd6Effect (s : State) (cls : HashClass) (src : DataSource) : State :=
  { s with acc := hashFold s.hmode s.h s.acc (s.sixBlocks src) }.countBytes 96 cls

/-- HUPD6 (41_uhash.md R162). -/
def execHupd6 (cls : HashClass) (src : DataSource) (s : State) : Result :=
  runCommand (s.hupd6Checks cls) (fun s => s.hupd6Effect cls src) s

/-- The check of HLEN (41_uhash.md R164). -/
def State.hlenChecks (s : State) : List (Bool × ErrCode) := [(s.noOpenSession, .seq)]

/-- What HLEN does (41_uhash.md R164). -/
def State.hlenEffect (s : State) : State :=
  { s with acc := hashUpd s.hmode s.h s.acc s.lengthBlock, ph := .final }

/-- HLEN (41_uhash.md R164). -/
def execHlen (s : State) : Result := runCommand s.hlenChecks State.hlenEffect s

end Sys2Proof.Machine
end

