-- ==== Sys2Proof/Machine/Dispatch.lean ====
section
/-! DEFINITION. The engine step of each command (60_exceptions.md R260), one arm per constructor. -/

namespace Sys2Proof.Machine

def exec (i : Instr) (s : State) : Host.Outcome State Fault Refusal :=
  match i with
  | .nop => Sys2Proof.Machine.execNop s
  | .kexp ksz => Sys2Proof.Machine.execKexp ksz s
  | .kdf => Sys2Proof.Machine.execKdf s
  | .aese ksel slot => Sys2Proof.Machine.execAese ksel slot s
  | .hkey slot => Sys2Proof.Machine.execHkey slot s
  | .hinit hm => Sys2Proof.Machine.execHinit hm s
  | .hupd cls src slot n => Sys2Proof.Machine.execHupd cls src slot n s
  | .hupd6 cls src => Sys2Proof.Machine.execHupd6 cls src s
  | .hlen => Sys2Proof.Machine.execHlen s
  | .tagf => Sys2Proof.Machine.execTagf s
  | .ctri src => Sys2Proof.Machine.execCtri src s
  | .ctrx1 slot n => Sys2Proof.Machine.execCtrx1 slot n s
  | .ctrx4 => Sys2Proof.Machine.execCtrx4 s
  | .ctrx8 => Sys2Proof.Machine.execCtrx8 s
  | .zero scope => Sys2Proof.Machine.execZero scope s

end Sys2Proof.Machine
end

