-- ==== Sys2Proof/Machine/Engine.lean ====
section
/-! DEFINITION. The engine step (60_exceptions.md R260) and one move of each agent (10_state.md R22). -/

namespace Sys2Proof.Machine

/-- The engine step of a pending command: classify and decode the word (30_encoding.md R102), reject it or run it
(60_exceptions.md R260, R263). -/
def engineStep (s : State) : Result :=
  match decode s.params.pipe s.pending with
  | .error e => .next (s.reject (decodeErrCode e))
  | .ok i => exec i s

/-- The engine's turn: the engine step is enabled only when BUSY = 1 (60_exceptions.md R260). -/
def engineTurn (s : State) : Result := if s.busy then engineStep s else .next s

/-- One move of the outside world or of the engine (10_state.md R22, 70_reset_and_hazards.md R290). -/
def takeInput (input : Input) (s : State) : Result :=
  match input with
  | .engine => engineTurn s
  | .read off size => hostAccess off size (s.hostRead off)
  | .write off size v => hostAccess off size (s.hostWrite off v)
  | .reset => .next s.resetPulse

/-- The next move: the first input; when there is none left, the engine's turn (70_reset_and_hazards.md R300, weak
fairness; log entry 2). -/
def nextMove (s : State) : Result :=
  match s.inputs with
  | [] => engineTurn s
  | input :: rest => takeInput input (s.setInputs rest)

/-- A command word delivered to the engine: accepted as a CMD write accepts it (10_state.md R28), with the engine's turn
next. -/
def State.deliver (s : State) (w : Word) : State := (s.accept w).setInputs (.engine :: s.inputs)

end Sys2Proof.Machine
end

