-- ==== Sys2Proof/Machine/Step.lean ====
section
/-! DEFINITION. One step of the machine: one host access, one engine step or one reset (60_exceptions.md R260). -/

namespace Sys2Proof.Machine

def step (s : State) : Host.Outcome State Fault Refusal := nextMove s

/-- The engine fetches nothing: a command is delivered by a CMD write (10_state.md R21, R28). This is the state right
after the delivery of the command word w, with the engine's turn next (log entry 10). -/
def State.withFetchWord (s : State) (nbits w : Nat) : State := s.deliver (BitVec.ofNat 32 (w % 2 ^ nbits))

end Sys2Proof.Machine
end

