-- ==== Sys2Proof/Safety.lean ====
section
/-! DEFINITION. The terms the statements use: the invariant of the engine, which states agree to an observer, host
accesses the spec allows, and runs of several commands. -/

namespace Sys2Proof.Machine

/-- What holds after reset and after every step. `alen_le`, `mlen_le`, `session_has_key`, `subkey_of_master`,
`tag_of_subkey` and `partial_has_counter` are the parts of 10_state.md R45 that one state can show; `master_complete` is
60_exceptions.md R280; the others follow from the same command rules. -/
structure State.Inv (s : State) : Prop where
  /-- 00_scope.md R9. -/
  params_wf : s.params.wf
  /-- R45 item 6. -/
  alen_le : s.alen.toNat ≤ s.params.maxLenBytes
  /-- R45 item 6. -/
  mlen_le : s.mlen.toNat ≤ s.params.maxLenBytes
  /-- R45 item 1. -/
  session_has_key : s.ph ≠ .idle → s.hv = true
  /-- No hash session: HashClear's values (10_state.md R47). -/
  idle_is_clear : s.ph = .idle →
    s.acc = 0 ∧ s.alen = 0 ∧ s.mlen = 0 ∧ s.apart = false ∧ s.mpart = false ∧ s.hmode = .polyval
  /-- HTAB holds the powers of H in an open session when PIPE = 1 (41_uhash.md R157). -/
  table_of_session : s.params.pipe = true → s.ph ≠ .idle → s.htab = hashTable s.hmode s.h
  /-- HTAB is HashClear's when there is no session, and there is no table when PIPE = 0 (10_state.md R41, R47). -/
  table_absent : s.params.pipe = false ∨ s.ph = .idle → s.htab = Vector.replicate 6 0
  /-- R45 item 2. -/
  subkey_of_master : s.sv = true → s.kv = true ∧ s.eksz = s.mksz
  /-- ERK is EK's schedule, EK's unused bytes are 0, and the hash key is valid too (42_kdf.md R190). -/
  subkey_complete : s.sv = true → s.hv = true ∧ s.erk = keyExpansion s.eksz s.ek ∧
    (s.eksz = .aes128 → s.ek.extractLsb' 128 128 = 0)
  /-- SubkeyClear's values (10_state.md R47). -/
  no_subkey_is_clear : s.sv = false → s.ek = 0 ∧ s.erk = zeroSchedule ∧ s.eksz = .aes128
  /-- SubkeyClear's value of H (10_state.md R47). -/
  no_hash_key_is_clear : s.hv = false → s.h = 0
  /-- 60_exceptions.md R280: MRK is a complete schedule of the size MKSZ. -/
  master_complete : s.kv = true → ∃ k, s.mrk = keyExpansion s.mksz k
  /-- MasterClear's values (10_state.md R47). -/
  no_master_is_clear : s.kv = false → s.mrk = zeroSchedule ∧ s.mksz = .aes128
  /-- R45 item 4: TAG was computed after the last KDF or KEXP, both of which clear TV. -/
  tag_of_subkey : s.tv = true → s.sv = true
  /-- CtrClear's value of TAG (10_state.md R47). -/
  no_tag_is_clear : s.tv = false → s.tag = 0
  /-- R45 item 5. -/
  partial_has_counter : s.cpart = true → s.cv = true
  /-- CtrClear's value of CTR (10_state.md R47). -/
  no_counter_is_clear : s.cv = false → s.ctr = 0
  /-- Bit 7 of byte 15 is set in every counter block (44_ctr.md R210, R211; 93_implementation_defined.md S2). -/
  counter_marked : s.cv = true → s.ctr.getLsbD 127 = true
  /-- No error recorded: no code and no info (10_state.md R27, R29). -/
  no_error_is_clear : s.err = false → s.errcode = 0 ∧ s.errinfo = 0
  /-- Codes 0x00 and 0x0C to 0xFF are never written with ERR (60_exceptions.md R261). -/
  error_is_known : s.err = true → ∃ e : ErrCode, s.errcode = e.code
  /-- DONE is cleared on acceptance (60_exceptions.md R268). -/
  busy_not_done : s.busy = true → s.done = false

/-- The host access is an aligned word of the window, or no host access at all (20_memory.md R61). -/
def Input.legal : Input → Bool
  | .engine => true
  | .read off size => size == 4 && off % 4 == 0 && off < 0x200
  | .write off size _ => size == 4 && off % 4 == 0 && off < 0x200
  | .reset => true

/-- The commands run one after the other, stopping where one has no next state. -/
def execAll : List Instr → State → Result
  | [], s => .next s
  | i :: is, s =>
    match exec i s with
    | .next t => execAll is t
    | .fault r => .fault r
    | .refused r => .refused r

/-- The host has loaded a block into an input slot (30_encoding.md R106, LDBLK). -/
def State.loadSlot (s : State) (j : Fin 8) (b : Block) : State := { s with din := s.din.set j b }

/-- The state with everything hidden from the host blanked: KEY, MRK, H, EK, ERK, EKSZ, HTAB and PENDING have no
readable register (20_memory.md R69, 10_state.md R38 to R41, R44). -/
def State.blankHidden (s : State) : State :=
  { s with key := 0, mrk := [], h := 0, ek := 0, erk := [], eksz := .aes128, htab := Vector.replicate 6 0, pending := 0 }

/-- The state with PIPE and HTAB blanked: what 45_control.md R245 compares. -/
def State.blankPipe (s : State) : State :=
  { s with params := ⟨false, s.params.maxLenBytes⟩, htab := Vector.replicate 6 0 }

/-- The engine is the next to move: its turn comes, or nothing comes from outside. -/
def State.engineNext (s : State) : Bool :=
  match s.inputs with
  | [] => true
  | .engine :: _ => true
  | .read _ _ :: _ => false
  | .write _ _ _ :: _ => false
  | .reset :: _ => false

/-- The next move is one a PIPE = 0 program can make without seeing PIPE: no PIPE-only opcode is about to run, and CAP
is not read (45_control.md R245). -/
def State.portableMove (s : State) : Bool :=
  if s.engineNext then !(s.busy && (opField s.pending == 0x13 || opField s.pending == 0x32 || opField s.pending == 0x33))
  else
    match s.inputs with
    | .read off _ :: _ => off != 0x004
    | [] | .engine :: _ | .write _ _ _ :: _ | .reset :: _ => true

end Sys2Proof.Machine
end

