-- ==== Sys2Proof/Certificates/Slice0/Obligations.lean ====
section
/-! DEFINITION. The statements about the model, for the provers. -/

open Sys2Proof Sys2Proof.Machine

namespace Sys2Proof.Statements

/-- The rows of 30_encoding.md R101: opcode, match, mask. -/
def matchMask : List (Op × Word × Word) :=
  [(.nop, 0x00000000, 0xFFFFFFFF), (.kexp, 0x00000001, 0xFFFDFFFF), (.kdf, 0x00000002, 0xFFFFFFFF)] ++
  [(.aese, 0x00000003, 0xFFF78FFF), (.hkey, 0x00000010, 0xFFFF8FFF), (.hinit, 0x00000011, 0xFFEFFFFF)] ++
  [(.hupd, 0x00000012, 0xFFFE00FF), (.hupd6, 0x00000013, 0xFFFE7FFF), (.hlen, 0x00000014, 0xFFFFFFFF)] ++
  [(.tagf, 0x00000020, 0xFFFFFFFF), (.ctri, 0x00000030, 0xFFFEFFFF), (.ctrx1, 0x00000031, 0xFFFF80FF)] ++
  [(.ctrx4, 0x00000032, 0xFFFFFFFF), (.ctrx8, 0x00000033, 0xFFFFFFFF), (.zero, 0x0000003F, 0xFFDFFFFF)]

/-- The OP values of 30_encoding.md R103. -/
def assignedOps : List Byte :=
  [0x00, 0x01, 0x02, 0x03, 0x10, 0x11, 0x12, 0x13] ++ [0x14, 0x20, 0x30, 0x31, 0x32, 0x33, 0x3F]

/-- The row of an instruction. -/
def opOf : Instr → Op
  | .nop => .nop
  | .kexp _ => .kexp
  | .kdf => .kdf
  | .aese _ _ => .aese
  | .hkey _ => .hkey
  | .hinit _ => .hinit
  | .hupd _ _ _ _ => .hupd
  | .hupd6 _ _ => .hupd6
  | .hlen => .hlen
  | .tagf => .tagf
  | .ctri _ => .ctri
  | .ctrx1 _ _ => .ctrx1
  | .ctrx4 => .ctrx4
  | .ctrx8 => .ctrx8
  | .zero _ => .zero

/-- The state a rejection leaves, spelled out: the error record and BUSY, nothing else (60_exceptions.md R260, R264). -/
def rejected (s : State) (code : Byte) : State :=
  { s with err := true, errcode := code, errinfo := s.pending, busy := false }

/-- polyP(b) of 41_uhash.md R151: the coefficient of x^i is bit i mod 8 of byte i div 8. -/
noncomputable def polyP (b : Block) : Polynomial (ZMod 2) :=
  ∑ i ∈ Finset.range 128, if (byteAt b (i / 8)).getLsbD (i % 8) then Polynomial.X ^ i else 0

/-- polyG(b) of 41_uhash.md R152: the coefficient of x^i is bit 7 - i mod 8 of byte i div 8. -/
noncomputable def polyG (b : Block) : Polynomial (ZMod 2) :=
  ∑ i ∈ Finset.range 128, if (byteAt b (i / 8)).getLsbD (7 - i % 8) then Polynomial.X ^ i else 0

/-- P(x) of 41_uhash.md R151. -/
noncomputable def modulusP : Polynomial (ZMod 2) :=
  Polynomial.X ^ 128 + Polynomial.X ^ 127 + Polynomial.X ^ 126 + Polynomial.X ^ 121 + 1

/-- The GHASH modulus of 41_uhash.md R152. -/
noncomputable def modulusG : Polynomial (ZMod 2) :=
  Polynomial.X ^ 128 + Polynomial.X ^ 7 + Polynomial.X ^ 2 + Polynomial.X + 1

/-- The identity block of Mul in each mode (41_uhash.md R153, R154, R167): byte 0 is 01 and byte 15 is c2 for POLYVAL,
byte 0 is 80 for GHASH. -/
def identityBlock : HashMode → Block
  | .polyval => 0xC2000000000000000000000000000001
  | .ghash => 0x80

/-- w[i] of a key schedule: word i mod 4 of round key i div 4 (40_aes.md R124). -/
def scheduleWord (rk : List Block) (i : Nat) : Word := wordAt (rk.getD (i / 4) 0) (i % 4)

/-- The phase a completed command leaves (41_uhash.md R165). -/
def phaseAfter (i : Instr) (before : Phase) : Phase :=
  match i with
  | .kexp _ => .idle
  | .kdf => .idle
  | .hkey _ => .idle
  | .zero _ => .idle
  | .hinit _ => .aad
  | .hupd .message _ _ _ => .msg
  | .hupd6 .message _ => .msg
  | .hlen => .final
  | .hupd .aad _ _ _ => before
  | .hupd6 .aad _ => before
  | .nop | .aese _ _ | .tagf | .ctri _ | .ctrx1 _ _ | .ctrx4 | .ctrx8 => before

/-- Multiplication in GF(2^8) modulo 0x11B, by repeated doubling (40_aes.md R127): k bits of b remain. -/
def gf256Mul (a b : Byte) : Nat → Byte
  | 0 => 0
  | k + 1 => gf256Mul (xtime a) (b >>> 1) k ^^^ (if b.getLsbD 0 then a else 0)

/-- The affine map of 40_aes.md R123. -/
def sboxAffine (b : Byte) : Byte :=
  b ^^^ b.rotateLeft 1 ^^^ b.rotateLeft 2 ^^^ b.rotateLeft 3 ^^^ b.rotateLeft 4 ^^^ 0x63

/-- The offsets whose write while BUSY = 1 is the BUSY error: CMD, KEY0 to KEY7, NONCE0 to NONCE2, DIN
(60_exceptions.md R266, 10_state.md R29). -/
def guardedOffset (off : Nat) : Prop :=
  off % 4 = 0 ∧ (off = 0x010 ∨ (0x040 ≤ off ∧ off ≤ 0x068) ∨ (0x100 ≤ off ∧ off ≤ 0x17C))

/-- The offsets a write ever changes anything at (10_state.md R23): CTRL, STATUS and the guarded ones. -/
def writableOffset (off : Nat) : Prop := off = 0x008 ∨ off = 0x00C ∨ guardedOffset off

/-- The commands of a seal of one message block of n bytes in slot 0, with no AAD (45_control.md R242 steps 2 to 9). -/
def sealOneBlock (n : Nat) : List Instr :=
  [.kdf, .hinit .polyval, .hupd .message .din 0 n, .hlen, .tagf, .ctri .tag, .ctrx1 0 n]

/-- The commands of the open of one block of n bytes in slot 1, received tag in slot 0, no AAD (45_control.md R243
steps 2 to 8). -/
def openOneBlock (n : Nat) : List Instr :=
  [.kdf, .ctri .din, .hinit .polyval, .ctrx1 1 n, .hupd .message .dout 1 n, .hlen, .tagf]

end Sys2Proof.Statements

open Sys2Proof.Statements

/-! ## Encoding -/

/-- Decoding the encoded word of every well-formed instruction gives it back, for both values of PIPE (30_encoding.md
section 2; R103 is marked derived). -/
def Obligations.DecodeOfEncode : Prop :=
  ∀ (pipe : Bool) (i : Instr), i.wellFormed pipe = true → decode pipe (encode i) = .ok i

/-- Every word that decodes is the encoding of what it decodes to, and that is well-formed: a word has one meaning. -/
def Obligations.EncodeOfDecode : Prop :=
  ∀ (pipe : Bool) (w : Word) (i : Instr), decode pipe w = .ok i → encode i = w ∧ i.wellFormed pipe = true

/-- A word decodes to an instruction of a row exactly when the row exists and (w AND mask) = match
(30_encoding.md section 2). -/
def Obligations.DecodeIsMatchMask : Prop :=
  ∀ (pipe : Bool) (w : Word) (op : Op) (m k : Word), (op, m, k) ∈ matchMask →
    ((∃ i, decode pipe w = .ok i ∧ opOf i = op) ↔ ((op.pipeOnly = true → pipe = true) ∧ w &&& k = m))

/-- 30_encoding.md R102: the four steps of the classification at the engine step, each with its whole effect. -/
def Obligations.EngineStepClassifiesWord : Prop :=
  ∀ s : State,
    let w := s.pending
    let unassigned := opField w ∉ assignedOps ∨ (opField w ∈ [0x13, 0x32, 0x33] ∧ s.params.pipe = false)
    let reservedSet := ∃ op : Op, op.byte = opField w ∧ ∃ b, 8 ≤ b ∧ b < 32 ∧ w.getLsbD b = true ∧
      op.usedBits.getLsbD b = false
    (unassigned → engineStep s = .next (rejected s 0x01)) ∧
    (¬unassigned → reservedSet → engineStep s = .next (rejected s 0x02)) ∧
    (¬unassigned → ¬reservedSet → opField w = 0x01 → (kszField w = 2 ∨ kszField w = 3) →
      engineStep s = .next (rejected s 0x03)) ∧
    (¬unassigned → ¬reservedSet → ¬(opField w = 0x01 ∧ (kszField w = 2 ∨ kszField w = 3)) →
      ∃ op m k i, (op, m, k) ∈ matchMask ∧ w &&& k = m ∧ decode s.params.pipe w = .ok i ∧ engineStep s = exec i s)

/-- Words written out from 30_encoding.md R101 and R105 decode to what they stand for. -/
def Obligations.SampleWordsDecode : Prop :=
  decode true 0x0001BB12 = .ok (.hupd .message .dout 3 11) ∧ decode false 0x00000712 = .ok (.hupd .aad .din 0 7) ∧
  decode false 0x00020001 = .ok (.kexp .aes256) ∧ decode false 0x00040001 = .error .keySize ∧
  decode false 0x00082003 = .ok (.aese .erk 2) ∧ decode false 0x00003010 = .ok (.hkey 3) ∧
  decode false 0x00100011 = .ok (.hinit .ghash) ∧ decode true 0x00018013 = .ok (.hupd6 .message .dout) ∧
  decode false 0x00018013 = .error .illegal ∧ decode false 0x00010030 = .ok (.ctri .din) ∧
  decode false 0x00004B31 = .ok (.ctrx1 4 11) ∧ decode false 0x0020003F = .ok (.zero .all) ∧
  decode false 0x80000020 = .error .reserved ∧ decode false 0x00000004 = .error .illegal

/-! ## The step -/

/-- What a step does. The engine's move: with a pending word that decodes, the step is exec of the decoded instruction, the
input that gave the engine its turn used up; with a word that does not decode it is the rejection with the code of
30_encoding.md section 2; with no command pending it changes nothing (60_exceptions.md section 1). The host's move: a read
or write of an aligned word of the window is performed, its input used up (20_memory.md section 1). -/
def Obligations.StepRunsDecodedInstruction : Prop :=
  ∀ s : State,
    (s.engineNext = true →
      let s0 : State := { s with inputs := s.inputs.tail }
      (∀ i, s.busy = true → decode s.params.pipe s.pending = .ok i → step s = exec i s0) ∧
      (∀ e, s.busy = true → decode s.params.pipe s.pending = .error e →
        step s = .next (rejected s0 (match e with | .illegal => 0x01 | .reserved => 0x02 | .keySize => 0x03))) ∧
      (s.busy = false → step s = .next s0)) ∧
    ∀ off rest, off % 4 = 0 → off < 0x200 →
      let s0 : State := { s with inputs := rest }
      (s.inputs = .read off 4 :: rest → step s = .next (s0.hostRead off)) ∧
      ∀ v, s.inputs = .write off 4 v :: rest → step s = .next (s0.hostWrite off v)

/-- Every command answers a next state, and it is one of two: completed, with BUSY 0, DONE 1 and the error record, CTRL,
PENDING, the parameters and KEY's readers untouched; or rejected, exactly the state before but for the error record and
BUSY (60_exceptions.md sections 1 and 3). -/
def Obligations.CommandCompletesOrIsPrecise : Prop :=
  ∀ (i : Instr) (s : State), ∃ t, exec i s = .next t ∧
    ((t.busy = false ∧ t.done = true ∧ t.err = s.err ∧ t.errcode = s.errcode ∧ t.errinfo = s.errinfo ∧
        t.ieDone = s.ieDone ∧ t.ieErr = s.ieErr ∧ t.pending = s.pending ∧ t.params = s.params ∧
        t.inputs = s.inputs ∧ t.reads = s.reads ∧ t.draws = s.draws) ∨
      ∃ e : ErrCode, e ≠ .busy ∧ t = rejected s e.code)

/-- A step never faults, it is refused exactly when the next input is a host access the spec gives no step: another
size, a misaligned offset or an offset outside the window (20_memory.md section 1); and no step changes PIPE or
MAX_LEN_BYTES (log entry 1). -/
def Obligations.StepRefusesOnlyBadAccess : Prop :=
  ∀ s : State, (∀ f, step s ≠ .fault f) ∧
    ((∃ r, step s = .refused r) ↔ ∃ input rest, s.inputs = input :: rest ∧ input.legal = false) ∧
    ∀ t, step s = .next t → t.params = s.params

/-- The invariant holds after reset, for every admissible value of the parameters. -/
def Obligations.InvAfterReset : Prop :=
  ∀ p : Params, p.wf → (State.resetWith p).Inv

/-- Every step keeps the invariant, from every state that has it (10_state.md R45, marked derived; section 4). -/
def Obligations.StepKeepsInv : Prop :=
  ∀ s t : State, s.Inv → step s = .next t → t.Inv

/-! ## The window and the error record -/

/-- 10_state.md R28: the three cases of a CMD write, and a read of CMD. -/
def Obligations.CommandIssue : Prop :=
  ∀ (s : State) (w : Word),
    (s.busy = true → s.hostWrite 0x010 w = { s with err := true, errcode := 0x0B, errinfo := 0x010 }) ∧
    (s.busy = false → s.err = true → w.extractLsb' 0 8 ≠ 0x3F → s.hostWrite 0x010 w = s) ∧
    (s.busy = false → (s.err = false ∨ w.extractLsb' 0 8 = 0x3F) →
      s.hostWrite 0x010 w = { s with pending := w, busy := true, done := false }) ∧
    s.readValue (Reg.atOffset 0x010) = 0

/-- 60_exceptions.md R266: a write to CMD, KEY, NONCE or DIN while BUSY = 1 records BUSY with the offset and does nothing
else; other writes are never BUSY errors. The pending command is not affected: it still runs at its engine step, and if
it completes, DONE and the BUSY error are both set. -/
def Obligations.BusyWriteIsRecorded : Prop :=
  ∀ (s : State) (off : Nat) (v : Word), s.busy = true → off < 0x200 → off % 4 = 0 →
    let t := s.hostWrite off v
    (guardedOffset off → t = { s with err := true, errcode := 0x0B, errinfo := BitVec.ofNat 32 off }) ∧
    (¬guardedOffset off → t.err = true → s.err = true ∧ t.errcode = s.errcode ∧ t.errinfo = s.errinfo) ∧
    t.pending = s.pending ∧ t.busy = true ∧
    ∀ i, decode s.params.pipe s.pending = .ok i → engineStep t = exec i t ∧
      (guardedOffset off → s.done = false → ∀ u, exec i t = .next u → u.done = true →
        u.err = true ∧ u.errcode = 0x0B ∧ u.errinfo = BitVec.ofNat 32 off)

/-- 60_exceptions.md R267: a STATUS write with bit 2 set clears ERR, ERRCODE and ERRINFO, one with bit 1 set clears DONE,
in one write too, and nothing else is written; over every step, ERR is cleared only by such a write or by reset; reset
clears everything: leaving the model's own fields aside, the state is the reset state. -/
def Obligations.OnlyStatusWriteClearsError : Prop :=
  (∀ (s : State) (v : Word), s.hostWrite 0x00C v =
    { s with done := s.done && !v.getLsbD 1, err := s.err && !v.getLsbD 2,
             errcode := if v.getLsbD 2 then 0 else s.errcode, errinfo := if v.getLsbD 2 then 0 else s.errinfo }) ∧
  (∀ s t : State, step s = .next t → s.err = true → t.err = false →
    (∃ v rest, s.inputs = .write 0x00C 4 v :: rest ∧ v.getLsbD 2 = true) ∨ ∃ rest, s.inputs = .reset :: rest) ∧
  (∀ (s : State) (rest : List Input), s.inputs = .reset :: rest →
    ∃ t, step s = .next t ∧ { t with inputs := [], reads := [], draws := 0 } = State.resetWith s.params)

/-- 60_exceptions.md R268, over every step: DONE rises only at an engine step that completes a command, and falls only
when a command is accepted, at a STATUS write with bit 1 set, or at reset. -/
def Obligations.DoneRisesAndFalls : Prop :=
  ∀ s t : State, step s = .next t →
    (s.done = false → t.done = true → s.engineNext = true ∧ s.busy = true ∧ t.busy = false ∧ t.err = s.err) ∧
    (s.done = true → t.done = false →
      (∃ w rest, s.inputs = .write 0x010 4 w :: rest ∧ t.busy = true ∧ t.pending = w) ∨
      (∃ v rest, s.inputs = .write 0x00C 4 v :: rest ∧ v.getLsbD 1 = true) ∨ ∃ rest, s.inputs = .reset :: rest)

/-- The IRQ level and its copy in STATUS bit 3 (60_exceptions.md section 4). -/
def Obligations.IrqFollowsEnables : Prop :=
  ∀ s : State, (s.irq = true ↔ (s.done = true ∧ s.ieDone = true) ∨ (s.err = true ∧ s.ieErr = true)) ∧
    (s.readValue (Reg.atOffset 0x00C)).getLsbD 3 = s.irq

/-- The fields of a STATUS read while BUSY = 0 (the table of 10_state.md R27). -/
def Obligations.StatusFields : Prop :=
  ∀ s : State, s.busy = false →
    let v := s.readValue (Reg.atOffset 0x00C)
    v.getLsbD 0 = false ∧ v.getLsbD 1 = s.done ∧ v.getLsbD 2 = s.err ∧ v.getLsbD 3 = s.irq ∧ v.extractLsb' 4 4 = 0 ∧
    v.extractLsb' 8 8 = s.errcode ∧ v.getLsbD 16 = s.kv ∧ v.getLsbD 17 = s.sv ∧ v.getLsbD 18 = s.hv ∧
    v.getLsbD 19 = s.tv ∧
    v.extractLsb' 20 2 = (match s.ph with | .idle => 0 | .aad => 1 | .msg => 2 | .final => 3) ∧
    v.getLsbD 22 = decide (s.hmode = .ghash) ∧ v.getLsbD 23 = s.apart ∧ v.getLsbD 24 = s.mpart ∧
    v.getLsbD 25 = s.cv ∧ v.getLsbD 26 = s.cpart ∧ v.getLsbD 27 = decide (s.mksz = .aes256) ∧ v.extractLsb' 28 4 = 0

/-- What a register read returns, byte k of a word being byte 4i+k of its field (20_memory.md section 2). In every state:
ERRINFO, NONCE and DIN their current value. While BUSY = 0: ALEN, MLEN, TAG, ACC, CTR and DOUT the state the last engine
step left, and every register its current value. While BUSY = 1 (70_reset_and_hazards.md section 2): the registers that
keep their current value, and the drawn ones; that a drawn value is Config.freeWord at the count of draws is the model's
form of "any value" (log entry 3), and nothing is said of it. -/
def Obligations.ReadsWhileBusy : Prop :=
  ∀ s : State,
    let read := fun off : Nat => s.readValue (Reg.atOffset off)
    (read 0x014 = s.errinfo ∧ ∀ i k, k < 4 →
      (i < 3 → byteAt (read (0x060 + 4 * i)) k = byteAt s.nonce (4 * i + k)) ∧
      ∀ j : Fin 8, i < 4 → byteAt (read (0x100 + 16 * j.val + 4 * i)) k = byteAt s.din[j] (4 * i + k)) ∧
    (s.busy = false →
      (read 0x018 = s.alen.extractLsb' 0 32 ∧ read 0x01C = s.alen.extractLsb' 32 32 ∧
        read 0x020 = s.mlen.extractLsb' 0 32 ∧ read 0x024 = s.mlen.extractLsb' 32 32) ∧
      (∀ i k, i < 4 → k < 4 →
        byteAt (read (0x070 + 4 * i)) k = byteAt s.tag (4 * i + k) ∧
        byteAt (read (0x080 + 4 * i)) k = byteAt s.acc (4 * i + k) ∧
        byteAt (read (0x090 + 4 * i)) k = byteAt s.ctr (4 * i + k) ∧
        ∀ j : Fin 8, byteAt (read (0x180 + 16 * j.val + 4 * i)) k = byteAt s.dout[j] (4 * i + k)) ∧
      ∀ off, off < 0x200 → off % 4 = 0 → read off = s.regValue (Reg.atOffset off)) ∧
    (s.busy = true → ∀ off, off < 0x200 → off % 4 = 0 →
      (off ∈ [0x000, 0x004, 0x008, 0x014] ∨ (0x060 ≤ off ∧ off < 0x06C) ∨ (0x100 ≤ off ∧ off < 0x180) →
        read off = s.regValue (Reg.atOffset off)) ∧
      (off = 0x00C → ∀ b, b < 28 → (read off).getLsbD b =
        if b < 16 then (s.regValue (Reg.atOffset off)).getLsbD b else (Config.freeWord s.draws).getLsbD b) ∧
      ((0x018 ≤ off ∧ off < 0x028) ∨ (0x070 ≤ off ∧ off < 0x0A0) ∨ 0x180 ≤ off →
        read off = Config.freeWord s.draws))

/-- 10_state.md R24 and R26, and the CAP word: the constant registers read their constants and ignore writes; a CTRL
write takes bits 1:0, also while BUSY = 1, changes nothing else, and reads back with bits 31:2 zero. -/
def Obligations.IdCapCtrl : Prop :=
  ∀ (s : State) (v : Word),
    s.readValue (Reg.atOffset 0x000) = 0x47535631 ∧ s.hostWrite 0x000 v = s ∧
    s.readValue (Reg.atOffset 0x004) = (if s.params.pipe then 0x0000000F else 0x0000000E) ∧ s.hostWrite 0x004 v = s ∧
    s.hostWrite 0x008 v = { s with ieDone := v.getLsbD 0, ieErr := v.getLsbD 1 } ∧
    (s.hostWrite 0x008 v).readValue (Reg.atOffset 0x008) = v &&& 3

/-- A host read changes nothing of the engine (20_memory.md section 3): the value goes to the host, and the model's own
records move, `reads` by the offset and that value, `draws` by one while BUSY = 1 (log entries 2 and 3). A write to a
read-only register or a reserved offset changes nothing at all (10_state.md section 3, 20_memory.md section 4). -/
def Obligations.ReadsAndIgnoredWritesChangeNothing : Prop :=
  ∀ (s : State) (off : Nat) (v : Word), off < 0x200 → off % 4 = 0 →
    s.hostRead off = { s with reads := ⟨off, s.readValue (Reg.atOffset off)⟩ :: s.reads,
                              draws := if s.busy then s.draws + 1 else s.draws } ∧
    (¬writableOffset off → s.hostWrite off v = s)

/-- 10_state.md R36 and 20_memory.md R62 on DIN: a written word is read back, its byte k is byte 4i+k of the slot, and
every other byte of DIN and every other field is unchanged. -/
def Obligations.DinWordLanes : Prop :=
  ∀ (s : State) (j : Fin 8) (i k : Nat) (v : Word), s.busy = false → i < 4 → k < 4 →
    let off := 0x100 + 16 * j.val + 4 * i
    let t := s.hostWrite off v
    t.readValue (Reg.atOffset off) = v ∧
    byteAt t.din[j] (4 * i + k) = v.extractLsb' (8 * k) 8 ∧
    (∀ b, b < 16 → b / 4 ≠ i → byteAt t.din[j] b = byteAt s.din[j] b) ∧
    (∀ j' : Fin 8, j' ≠ j → t.din[j'] = s.din[j']) ∧
    t = { s with din := t.din }

/-- Loading a key and a nonce word by word (10_state.md sections 3 and 4): byte 4i+k of the field is byte k of the
written word, the other bytes and every other field are unchanged, NONCE reads back and KEY reads 0. -/
def Obligations.KeyAndNonceWordLanes : Prop :=
  ∀ (s : State) (i k : Nat) (v : Word), s.busy = false → k < 4 →
    (i < 8 →
      let t := s.hostWrite (0x040 + 4 * i) v
      byteAt t.key (4 * i + k) = v.extractLsb' (8 * k) 8 ∧
      (∀ b, b < 32 → b / 4 ≠ i → byteAt t.key b = byteAt s.key b) ∧
      t = { s with key := t.key } ∧ t.readValue (Reg.atOffset (0x040 + 4 * i)) = 0) ∧
    (i < 3 →
      let t := s.hostWrite (0x060 + 4 * i) v
      byteAt t.nonce (4 * i + k) = v.extractLsb' (8 * k) 8 ∧
      (∀ b, b < 12 → b / 4 ≠ i → byteAt t.nonce b = byteAt s.nonce b) ∧
      t = { s with nonce := t.nonce } ∧ t.readValue (Reg.atOffset (0x060 + 4 * i)) = v)

/-- 10_state.md R46 and 70_reset_and_hazards.md R291: every piece of state after reset, and what every offset reads, with
PIPE in CAP. -/
def Obligations.RegistersAfterReset : Prop :=
  ∀ p : Params,
    let s := State.resetWith p
    (∀ off, off < 0x200 → off % 4 = 0 → s.readValue (Reg.atOffset off) =
      if off = 0x000 then 0x47535631
      else if off = 0x004 then (if p.pipe then 0x0000000F else 0x0000000E)
      else 0) ∧
    (s.key = 0 ∧ s.nonce = 0 ∧ s.tag = 0 ∧ s.acc = 0 ∧ s.ctr = 0 ∧ s.h = 0 ∧ s.ek = 0) ∧
    (∀ j : Fin 8, s.din[j] = 0 ∧ s.dout[j] = 0) ∧ (∀ j : Fin 6, s.htab[j] = 0) ∧
    (∀ k ∈ s.mrk, k = 0) ∧ (∀ k ∈ s.erk, k = 0) ∧
    (s.kv = false ∧ s.sv = false ∧ s.hv = false ∧ s.tv = false ∧ s.cv = false ∧ s.cpart = false ∧ s.apart = false ∧
      s.mpart = false ∧ s.mksz = .aes128 ∧ s.eksz = .aes128 ∧ s.hmode = .polyval ∧ s.ph = .idle) ∧
    (s.alen = 0 ∧ s.mlen = 0 ∧ s.ieDone = false ∧ s.ieErr = false ∧ s.busy = false ∧ s.done = false ∧ s.err = false ∧
      s.errcode = 0 ∧ s.errinfo = 0 ∧ s.irq = false)

/-- The reset input (70_reset_and_hazards.md section 1): every piece of engine state is at its reset value, and a
pending command is dropped without executing. That the input list, the record of reads and the draw count stay is the
model's choice (log entry 8). -/
def Obligations.ResetInputResets : Prop :=
  ∀ (s : State) (rest : List Input), s.inputs = .reset :: rest →
    step s = .next { State.resetWith s.params with inputs := rest, reads := s.reads, draws := s.draws }

/-- Which commands complete after reset without any setup, and the code of every other one (70_reset_and_hazards.md
section 1; R292 is marked derived). -/
def Obligations.CommandsAfterReset : Prop :=
  ∀ (p : Params) (w : Word) (i : Instr), decode p.pipe w = .ok i →
    let s := State.deliver (State.resetWith p) w
    let expected : Option Byte :=
      match i with
      | .nop | .kexp _ | .hkey _ | .zero _ | .ctri .din => none
      | .kdf | .aese .mrk _ => some 0x04
      | .aese .erk _ | .tagf | .ctrx1 _ _ | .ctrx4 | .ctrx8 => some 0x05
      | .hinit _ => some 0x06
      | .hupd _ _ _ _ | .hupd6 _ _ | .hlen => some 0x08
      | .ctri .tag => some 0x09
    ∃ t, step s = .next t ∧ t.busy = false ∧
      (expected = none → t.done = true ∧ t.err = false) ∧
      (∀ c, expected = some c → t.done = false ∧ t.err = true ∧ t.errcode = c ∧ t.errinfo = w)

/-! ## Whole-machine rules -/

/-- The host learns nothing of the hidden state from its accesses: two states that differ only in KEY, MRK, H, EK, ERK,
EKSZ, HTAB and PENDING take every host access to states that again differ only there, with the same values read
(20_memory.md section 4). -/
def Obligations.HostAccessHidesSecrets : Prop :=
  ∀ (s t : State) (input : Input) (rest : List Input), s.blankHidden = t.blankHidden →
    s.inputs = input :: rest → input ≠ .engine →
    (∀ r, step s = .refused r ↔ step t = .refused r) ∧
    ∀ s', step s = .next s' → ∃ t', step t = .next t' ∧ s'.blankHidden = t'.blankHidden ∧ s'.reads = t'.reads

/-- MRK, KV and MKSZ change only by KEXP, by ZERO with ALL = 1 and by reset (10_state.md section 4). -/
def Obligations.MasterKeyChangesOnlyByKexpZeroReset : Prop :=
  ∀ s t : State, step s = .next t → (t.mrk ≠ s.mrk ∨ t.kv ≠ s.kv ∨ t.mksz ≠ s.mksz) →
    (∃ rest, s.inputs = .reset :: rest) ∨
    (s.engineNext = true ∧ s.busy = true ∧
      ((∃ ksz, decode s.params.pipe s.pending = .ok (.kexp ksz)) ∨ decode s.params.pipe s.pending = .ok (.zero .all)))

/-- Commands read DIN and never write it, except ZERO; KEY is written by no command but ZERO with ALL = 1, and NONCE by
none but ZERO (10_state.md section 3). -/
def Obligations.CommandsKeepHostData : Prop :=
  ∀ (i : Instr) (s t : State), exec i s = .next t →
    ((∀ z, i ≠ .zero z) → t.din = s.din ∧ t.nonce = s.nonce) ∧ (i ≠ .zero .all → t.key = s.key)

/-- A command that changes H leaves no hash session open (10_state.md section 4, R45 item 1, marked derived). -/
def Obligations.HashKeyChangeEndsSession : Prop :=
  ∀ (i : Instr) (s t : State), exec i s = .next t → t.h ≠ s.h → t.ph = .idle

/-- Once message data or the length block is in, no more AAD is absorbed in the session: APART and ALEN are frozen until
the session ends or HINIT opens a new one (10_state.md section 4, R45 item 3, marked derived). -/
def Obligations.AadFrozenAfterMessage : Prop :=
  ∀ (i : Instr) (s t : State), exec i s = .next t → s.ph = .msg ∨ s.ph = .final → t.ph ≠ .idle →
    (∀ m, i ≠ .hinit m) → t.apart = s.apart ∧ t.alen = s.alen ∧ t.ph ≠ .aad ∧ (s.ph = .final → t.ph = .final)

/-- The phase machine (41_uhash.md section 3; R165 is marked derived): a completed command leaves the phase of the
table, a rejected one leaves the phase; and where the table says SEQ the absorbing commands are rejected. -/
def Obligations.PhaseMachine : Prop :=
  ∀ (i : Instr) (s t : State), exec i s = .next t →
    (t.done = true ∧ t.ph = phaseAfter i s.ph ∨ t = rejected s t.errcode) ∧
    (∀ src slot n, (i = .hupd .aad src slot n ∨ i = .hupd6 .aad src) → s.params.pipe = true →
      (s.ph ≠ .aad ∨ s.apart = true) → t = rejected s 0x08) ∧
    (∀ src slot n, (i = .hupd .message src slot n ∨ i = .hupd6 .message src) → s.params.pipe = true →
      (s.ph = .idle ∨ s.ph = .final ∨ s.mpart = true) → t = rejected s 0x08) ∧
    (i = .hlen → (s.ph = .idle ∨ s.ph = .final) → t = rejected s 0x08) ∧
    (i = .tagf → s.sv = true → s.hmode = .polyval → s.ph ≠ .final → t = rejected s 0x08)

/-- Path equivalence (45_control.md section 2; R245 is marked derived): two machines equal but for PIPE and HTAB take
every move a PIPE = 0 program can make to states again equal but for PIPE and HTAB, with the same values read. -/
def Obligations.PathEquivalence : Prop :=
  ∀ s t s' : State, s.blankPipe = t.blankPipe → s.portableMove = true → step s = .next s' →
    ∃ t', step t = .next t' ∧ s'.blankPipe = t'.blankPipe

/-! ## AES unit -/

/-- 40_aes.md R123's definition of the S-box against its table: the affine map of the inverse in GF(2^8), 0 mapped
to 0; and SubBytes replaces every byte by it. -/
def Obligations.SboxIsAffineInverse : Prop :=
  (∀ x : Byte, ∃ y : Byte, (if x = 0 then y = 0 else gf256Mul x y 8 = 1) ∧ sbox x = sboxAffine y) ∧
  ∀ (s : Block) (i : Nat), i < 16 → byteAt (subBytes s) i = sbox (byteAt s i)

/-- 40_aes.md R126 and R127 byte by byte, with s[r][c] byte r + 4c (R121): ShiftRows, and the four rows of MixColumns. -/
def Obligations.ShiftRowsMixColumnsBytes : Prop :=
  ∀ (s : Block) (r c : Nat), r < 4 → c < 4 →
    byteAt (shiftRows s) (r + 4 * c) = byteAt s (r + 4 * ((c + r) % 4)) ∧
    (let a := fun k => byteAt s (k + 4 * c)
     let two := fun x : Byte => (x <<< 1) ^^^ (if x.getLsbD 7 then 0x1B else 0)
     let three := fun x : Byte => two x ^^^ x
     byteAt (mixColumns s) (0 + 4 * c) = two (a 0) ^^^ three (a 1) ^^^ a 2 ^^^ a 3 ∧
     byteAt (mixColumns s) (1 + 4 * c) = a 0 ^^^ two (a 1) ^^^ three (a 2) ^^^ a 3 ∧
     byteAt (mixColumns s) (2 + 4 * c) = a 0 ^^^ a 1 ^^^ two (a 2) ^^^ three (a 3) ∧
     byteAt (mixColumns s) (3 + 4 * c) = three (a 0) ^^^ a 1 ^^^ a 2 ^^^ two (a 3))

/-- 40_aes.md R124 and R125: the schedule has Nr + 1 round keys, its first Nk words are the key, and every later word
follows the recurrence; RotWord, SubWord and Rcon. -/
def Obligations.KeyExpansionRecurrence : Prop :=
  (∀ (ksz : KeySize) (k : KeyBytes),
    let nk := match ksz with | .aes128 => 4 | .aes256 => 8
    let nr := match ksz with | .aes128 => 10 | .aes256 => 14
    let rk := keyExpansion ksz k
    let w := scheduleWord rk
    rk.length = nr + 1 ∧
    (∀ i, i < nk → w i = k.extractLsb' (32 * i) 32) ∧
    ∀ i, nk ≤ i → i < 4 * (nr + 1) →
      w i = w (i - nk) ^^^
        (if i % nk = 0 then subWord (rotWord (w (i - 1))) ^^^ (rcon (i / nk)).setWidth 32
         else if nk = 8 ∧ i % nk = 4 then subWord (w (i - 1))
         else w (i - 1))) ∧
  (∀ (v : Word) (b : Nat), b < 4 →
    byteAt (rotWord v) b = byteAt v ((b + 1) % 4) ∧ byteAt (subWord v) b = sbox (byteAt v b)) ∧
  (List.range 10).map (fun j => rcon (j + 1)) = [0x01, 0x02, 0x04, 0x08, 0x10, 0x20, 0x40, 0x80, 0x1B, 0x36] ∧
  ∀ j, 1 ≤ j → rcon (j + 1) = (rcon j <<< 1) ^^^ (if (rcon j).getLsbD 7 then 0x1B else 0)

/-- 40_aes.md R122: the cipher under any schedule of at least two round keys: the first key, the middle rounds in order,
and the last round without MixColumns. -/
def Obligations.AesIsItsRounds : Prop :=
  ∀ (first last : Block) (middle : List Block) (b : Block),
    aes (first :: (middle ++ [last])) b =
      shiftRows (subBytes (middle.foldl (fun s k => mixColumns (shiftRows (subBytes s)) ^^^ k) (b ^^^ first))) ^^^ last

/-- KEXP (40_aes.md section 2): it completes in every state, with the whole next state. -/
def Obligations.KexpResult : Prop :=
  ∀ (ksz : KeySize) (s : State),
    exec (.kexp ksz) s = .next
      { s with mrk := keyExpansion ksz s.key, mksz := ksz, kv := true, h := 0, hv := false, ek := 0, erk := zeroSchedule,
               sv := false, eksz := .aes128, acc := 0, alen := 0, mlen := 0, apart := false, mpart := false,
               ph := .idle, hmode := .polyval, htab := Vector.replicate 6 0, tag := 0, tv := false, ctr := 0,
               cv := false, cpart := false, busy := false, done := true }

/-- AESE (40_aes.md section 2): under the valid schedule KSEL names only DOUT[j] and the completion change; else NOKEY or
NOSUBKEY. -/
def Obligations.AeseResult : Prop :=
  ∀ (slot : Fin 8) (s : State),
    (s.kv = true → exec (.aese .mrk slot) s = .next
      { s with dout := s.dout.set slot (aes s.mrk s.din[slot]), busy := false, done := true }) ∧
    (s.sv = true → exec (.aese .erk slot) s = .next
      { s with dout := s.dout.set slot (aes s.erk s.din[slot]), busy := false, done := true }) ∧
    (s.kv = false → exec (.aese .mrk slot) s = .next (rejected s 0x04)) ∧
    (s.sv = false → exec (.aese .erk slot) s = .next (rejected s 0x05))

/-! ## Key derivation -/

/-- KDF (42_kdf.md): with KV = 1 it completes; block i is LE32(i) || NONCE, H and EK are the low halves in block order,
EK is 16 or 32 bytes by MKSZ, and the rest of the next state is given; with KV = 0 it is NOKEY. -/
def Obligations.KdfResult : Prop :=
  ∀ s : State,
    let e := fun i : Nat => (aes s.mrk (s.nonce ++ BitVec.ofNat 32 i)).extractLsb' 0 64
    (s.kv = false → exec .kdf s = .next (rejected s 0x04)) ∧
    (s.kv = true → ∃ t, exec .kdf s = .next t ∧
      t.h = e 1 ++ e 0 ∧
      (s.mksz = .aes128 → t.ek = 0#128 ++ e 3 ++ e 2) ∧ (s.mksz = .aes256 → t.ek = e 5 ++ e 4 ++ e 3 ++ e 2) ∧
      t = { s with h := t.h, ek := t.ek, erk := keyExpansion s.mksz t.ek, eksz := s.mksz, hv := true, sv := true,
                   acc := 0, alen := 0, mlen := 0, apart := false, mpart := false, ph := .idle, hmode := .polyval,
                   htab := Vector.replicate 6 0, tag := 0, tv := false, ctr := 0, cv := false, cpart := false,
                   busy := false, done := true })

/-! ## UHASH unit -/

/-- The POLYVAL product is the field product of 41_uhash.md section 2: x^128 times Dot(A, B) is A times B modulo P. -/
def Obligations.DotIsFieldProduct : Prop :=
  ∀ a b : Block, modulusP ∣ Polynomial.X ^ 128 * polyP (dot a b) - polyP a * polyP b

/-- The GHASH product is the field product of 41_uhash.md section 2. -/
def Obligations.GmulIsFieldProduct : Prop :=
  ∀ a b : Block, modulusG ∣ polyG (gmul a b) - polyG a * polyG b

/-- 41_uhash.md R166: POLYVAL is the byte-reversed GHASH of the byte-reversed blocks under mulX_GHASH of the reversed key,
for any number of blocks; mulX_GHASH is one shift of the block as a big-endian integer. -/
def Obligations.MirrorRelation : Prop :=
  ∀ (h : Block) (xs : List Block),
    let mulX := fun b : Block =>
      let v := reverseBytes b
      reverseBytes (if v.getLsbD 0 then (v >>> 1) ^^^ (0xE1#128 <<< 120) else v >>> 1)
    hashFold .polyval h 0 xs = reverseBytes (hashFold .ghash (mulX (reverseBytes h)) 0 (xs.map reverseBytes))

/-- The laws of the update (41_uhash.md section 4; R167 is marked derived): zero key, identity key, linearity. -/
def Obligations.UpdateLaws : Prop :=
  ∀ (m : HashMode) (h s x : Block),
    hashUpd m 0 s x = 0 ∧ hashUpd m (identityBlock m) s x = s ^^^ x ∧
    hashUpd m h s x = hashMul m s h ^^^ hashMul m x h ∧ hashUpd m h 0 0 = 0

/-- The aggregated six-block update with the table of powers equals the six Horner steps (41_uhash.md section 2; R158 is
marked derived), so HUPD6 may be computed from HTAB: for every HUPD6 that completes in a session whose table is the
powers of H, ACC is the aggregated form. -/
def Obligations.AggregatedUpdate : Prop :=
  ∀ (cls : HashClass) (src : DataSource) (s t : State), s.htab = hashTable s.hmode s.h →
    exec (.hupd6 cls src) s = .next t → t.done = true → s.done = false →
    let x := match src with | .din => s.din | .dout => s.dout
    let mul := hashMul s.hmode
    t.acc = mul (s.acc ^^^ x[0]) s.htab[5] ^^^ mul x[1] s.htab[4] ^^^ mul x[2] s.htab[3] ^^^ mul x[3] s.htab[2] ^^^
      mul x[4] s.htab[1] ^^^ mul x[5] s.htab[0]

/-- HKEY (41_uhash.md section 3): it completes in every state; HashClear, then H and HV. -/
def Obligations.HkeyResult : Prop :=
  ∀ (slot : Fin 8) (s : State),
    exec (.hkey slot) s = .next
      { s with h := s.din[slot], hv := true, acc := 0, alen := 0, mlen := 0, apart := false, mpart := false, ph := .idle,
               hmode := .polyval, htab := Vector.replicate 6 0, busy := false, done := true }

/-- HINIT (41_uhash.md section 3): with HV = 1 it opens a session in the mode HM, with the powers of H in HTAB when
PIPE = 1 (and HTAB zero when PIPE = 0, log entry 6); with HV = 0 it is NOHKEY. -/
def Obligations.HinitResult : Prop :=
  ∀ (hm : HashMode) (s : State),
    (s.hv = false → exec (.hinit hm) s = .next (rejected s 0x06)) ∧
    (s.hv = true → ∃ t, exec (.hinit hm) s = .next t ∧
      (s.params.pipe = true → t.htab[0] = s.h ∧ ∀ k (hk : k < 5), t.htab[k + 1] = hashMul hm t.htab[k] s.h) ∧
      (s.params.pipe = false → t.htab = Vector.replicate 6 0) ∧
      t = { s with hmode := hm, ph := .aad, htab := t.htab, acc := 0, alen := 0, mlen := 0, apart := false,
                   mpart := false, busy := false, done := true })

/-- HUPD (41_uhash.md section 3), its effect: with the order and the length right it completes; the absorbed block X is
the first n bytes of the source slot and zeros after them; the count of the class, its partial flag, PH and ACC are
written and nothing else. -/
def Obligations.HupdResult : Prop :=
  ∀ (cls : HashClass) (src : DataSource) (slot : Fin 8) (n : Nat) (s : State), 1 ≤ n → n ≤ 16 →
    (cls = .aad → s.ph = .aad ∧ s.apart = false ∧ s.alen.toNat + n ≤ s.params.maxLenBytes) →
    (cls = .message → (s.ph = .aad ∨ s.ph = .msg) ∧ s.mpart = false ∧ s.mlen.toNat + n ≤ s.params.maxLenBytes) →
    ∃ t x, exec (.hupd cls src slot n) s = .next t ∧
      (∀ b, b < 16 → byteAt x b =
        if b < n then byteAt (match src with | .din => s.din | .dout => s.dout)[slot] b else 0) ∧
      t.acc = hashUpd s.hmode s.h s.acc x ∧
      (cls = .aad → t = { s with acc := t.acc, alen := s.alen + BitVec.ofNat 64 n, apart := decide (n < 16),
                                 busy := false, done := true }) ∧
      (cls = .message → t = { s with acc := t.acc, mlen := s.mlen + BitVec.ofNat 64 n, mpart := decide (n < 16),
                                     ph := .msg, busy := false, done := true })

/-- HUPD's errors (41_uhash.md section 3), SEQ before LEN: wrong phase, a closed class, a count above MAX_LEN_BYTES. -/
def Obligations.HupdErrors : Prop :=
  ∀ (src : DataSource) (slot : Fin 8) (n : Nat) (s : State),
    (s.ph ≠ .aad ∨ s.apart = true → exec (.hupd .aad src slot n) s = .next (rejected s 0x08)) ∧
    (s.ph = .aad → s.apart = false → s.params.maxLenBytes < s.alen.toNat + n →
      exec (.hupd .aad src slot n) s = .next (rejected s 0x0A)) ∧
    (s.ph = .idle ∨ s.ph = .final ∨ s.mpart = true →
      exec (.hupd .message src slot n) s = .next (rejected s 0x08)) ∧
    (s.ph = .aad ∨ s.ph = .msg → s.mpart = false → s.params.maxLenBytes < s.mlen.toNat + n →
      exec (.hupd .message src slot n) s = .next (rejected s 0x0A))

/-- HUPD6 equals six HUPDs with n = 16 on slots 0 to 5 in order, wherever it is legal (41_uhash.md section 3); and it
completes there. -/
def Obligations.Hupd6IsSixHupds : Prop :=
  ∀ (cls : HashClass) (src : DataSource) (s : State), s.params.pipe = true →
    (cls = .aad → s.ph = .aad ∧ s.apart = false ∧ s.alen.toNat + 96 ≤ s.params.maxLenBytes) →
    (cls = .message → (s.ph = .aad ∨ s.ph = .msg) ∧ s.mpart = false ∧ s.mlen.toNat + 96 ≤ s.params.maxLenBytes) →
    (∃ t, exec (.hupd6 cls src) s = .next t ∧ t.done = true ∧ t.err = s.err) ∧
    exec (.hupd6 cls src) s = execAll ((List.finRange 6).map fun k => .hupd cls src (k.castLE (by decide)) 16) s

/-- HUPD6 (41_uhash.md section 3): its whole effect where it is legal, and its errors in order ILLOP, SEQ, LEN. -/
def Obligations.Hupd6Result : Prop :=
  ∀ (src : DataSource) (s : State),
    let x := match src with | .din => s.din | .dout => s.dout
    let acc := [x[0], x[1], x[2], x[3], x[4], x[5]].foldl (hashUpd s.hmode s.h) s.acc
    (s.params.pipe = false → ∀ cls, exec (.hupd6 cls src) s = .next (rejected s 0x01)) ∧
    (s.params.pipe = true → s.ph ≠ .aad ∨ s.apart = true → exec (.hupd6 .aad src) s = .next (rejected s 0x08)) ∧
    (s.params.pipe = true → s.ph = .aad → s.apart = false →
      exec (.hupd6 .aad src) s =
        if s.alen.toNat + 96 ≤ s.params.maxLenBytes then
          .next { s with acc := acc, alen := s.alen + 96, busy := false, done := true }
        else .next (rejected s 0x0A)) ∧
    (s.params.pipe = true → s.ph = .idle ∨ s.ph = .final ∨ s.mpart = true →
      exec (.hupd6 .message src) s = .next (rejected s 0x08)) ∧
    (s.params.pipe = true → s.ph = .aad ∨ s.ph = .msg → s.mpart = false →
      exec (.hupd6 .message src) s =
        if s.mlen.toNat + 96 ≤ s.params.maxLenBytes then
          .next { s with acc := acc, mlen := s.mlen + 96, ph := .msg, busy := false, done := true }
        else .next (rejected s 0x0A))

/-- HLEN (41_uhash.md section 3): in phase AAD or MSG it folds the length block, AAD bit count first, 8 bytes each, least
significant byte first in POLYVAL mode and most significant byte first in GHASH mode; else SEQ. -/
def Obligations.HlenResult : Prop :=
  ∀ s : State,
    (s.ph = .idle ∨ s.ph = .final → exec .hlen s = .next (rejected s 0x08)) ∧
    (s.ph = .aad ∨ s.ph = .msg → ∃ l : Block,
      (∀ b, b < 8 →
        (s.hmode = .polyval → byteAt l b = BitVec.ofNat 8 (8 * s.alen.toNat / 256 ^ b) ∧
          byteAt l (8 + b) = BitVec.ofNat 8 (8 * s.mlen.toNat / 256 ^ b)) ∧
        (s.hmode = .ghash → byteAt l b = BitVec.ofNat 8 (8 * s.alen.toNat / 256 ^ (7 - b)) ∧
          byteAt l (8 + b) = BitVec.ofNat 8 (8 * s.mlen.toNat / 256 ^ (7 - b)))) ∧
      exec .hlen s = .next { s with acc := hashUpd s.hmode s.h s.acc l, ph := .final, busy := false, done := true })

/-! ## Tag -/

/-- TAGF (43_tag.md): with SV = 1, POLYVAL and PH = FINAL it completes; the pre-tag is ACC with NONCE XORed into bytes 0
to 11 and bit 7 of byte 15 cleared, and only TAG and TV change; else NOSUBKEY, MODE, SEQ in that order. -/
def Obligations.TagfResult : Prop :=
  ∀ s : State,
    (s.sv = false → exec .tagf s = .next (rejected s 0x05)) ∧
    (s.sv = true → s.hmode = .ghash → exec .tagf s = .next (rejected s 0x07)) ∧
    (s.sv = true → s.hmode = .polyval → s.ph ≠ .final → exec .tagf s = .next (rejected s 0x08)) ∧
    (s.sv = true → s.hmode = .polyval → s.ph = .final → ∃ pre : Block,
      (∀ b, b < 12 → byteAt pre b = byteAt s.acc b ^^^ byteAt s.nonce b) ∧
      (∀ b, 12 ≤ b → b < 15 → byteAt pre b = byteAt s.acc b) ∧ byteAt pre 15 = byteAt s.acc 15 &&& 0x7F ∧
      exec .tagf s = .next { s with tag := aes s.erk pre, tv := true, busy := false, done := true })

/-! ## CTR unit -/

/-- 44_ctr.md R211, k times: the low 32 bits (bytes 0 to 3, little-endian) advance by k modulo 2^32, bytes 4 to 15 are
unchanged, and keystream block k is the encryption of that counter. -/
def Obligations.IncWrapsLowWord : Prop :=
  ∀ (k : Nat) (c : Block),
    ((incBy k c).extractLsb' 0 32).toNat = ((c.extractLsb' 0 32).toNat + k) % 2 ^ 32 ∧
    (∀ b, 4 ≤ b → b < 16 → byteAt (incBy k c) b = byteAt c b) ∧
    ∀ s : State, s.ctr = c → s.keystream k = aes s.erk (incBy k c)

/-- CTRI (44_ctr.md section 2): from DIN[0] it completes in every state, from TAG when TV = 1 (else NOTAG); CTR is the
seed with bit 7 of byte 15 set. -/
def Obligations.CtriResult : Prop :=
  ∀ (src : SeedSource) (s : State),
    (src = .tag → s.tv = false → exec (.ctri src) s = .next (rejected s 0x09)) ∧
    (src = .din ∨ s.tv = true → ∃ t, exec (.ctri src) s = .next t ∧
      (let seed := match src with | .tag => s.tag | .din => s.din[0]
       (∀ b, b < 15 → byteAt t.ctr b = byteAt seed b) ∧ byteAt t.ctr 15 = byteAt seed 15 ||| 0x80) ∧
      t = { s with ctr := t.ctr, cv := true, cpart := false, busy := false, done := true })

/-- CTRX1 (44_ctr.md section 2): with SV = 1, CV = 1 and CPART = 0 it completes; DOUT[j] is DIN[j] XOR keystream on the
first n bytes and 0 after them, CTR advances, CPART is set for n < 16; else NOSUBKEY, then SEQ. -/
def Obligations.Ctrx1Result : Prop :=
  ∀ (slot : Fin 8) (n : Nat) (s : State), 1 ≤ n → n ≤ 16 →
    (s.sv = false → exec (.ctrx1 slot n) s = .next (rejected s 0x05)) ∧
    (s.sv = true → s.cv = false ∨ s.cpart = true → exec (.ctrx1 slot n) s = .next (rejected s 0x08)) ∧
    (s.sv = true → s.cv = true → s.cpart = false → ∃ t, exec (.ctrx1 slot n) s = .next t ∧
      (∀ b, b < 16 → byteAt t.dout[slot] b =
        if b < n then byteAt s.din[slot] b ^^^ byteAt (aes s.erk s.ctr) b else 0) ∧
      (∀ j : Fin 8, j ≠ slot → t.dout[j] = s.dout[j]) ∧
      t = { s with dout := t.dout, ctr := incBy 1 s.ctr, cpart := decide (n < 16), busy := false, done := true })

/-- CTRX4 and CTRX8 (44_ctr.md section 2): with PIPE = SV = CV = 1 and CPART = 0 they complete; lane k is DIN[k] XOR
AES(ERK, Inc^k(CTR)), the other slots are unchanged, CTR advances by the lanes; else ILLOP, NOSUBKEY, SEQ in order. -/
def Obligations.CtrxBatchResult : Prop :=
  ∀ (i : Instr) (lanes : Nat) (s : State), (i = .ctrx4 ∧ lanes = 4) ∨ (i = .ctrx8 ∧ lanes = 8) →
    (s.params.pipe = false → exec i s = .next (rejected s 0x01)) ∧
    (s.params.pipe = true → s.sv = false → exec i s = .next (rejected s 0x05)) ∧
    (s.params.pipe = true → s.sv = true → s.cv = false ∨ s.cpart = true → exec i s = .next (rejected s 0x08)) ∧
    (s.params.pipe = true → s.sv = true → s.cv = true → s.cpart = false → ∃ t, exec i s = .next t ∧
      (∀ j : Fin 8, t.dout[j] =
        if j.val < lanes then s.din[j] ^^^ aes s.erk (incBy j.val s.ctr) else s.dout[j]) ∧
      t = { s with dout := t.dout, ctr := incBy lanes s.ctr, busy := false, done := true })

/-- Batch equivalence (44_ctr.md section 3; R217 is marked derived): CTRX4 is CTRX1 on slots 0 to 3, CTRX8 is CTRX1 on
slots 0 to 7, each with n = 16, to the same state. -/
def Obligations.BatchEquivalence : Prop :=
  ∀ s : State, s.params.pipe = true → s.sv = true → s.cv = true → s.cpart = false →
    exec .ctrx4 s = execAll [.ctrx1 0 16, .ctrx1 1 16, .ctrx1 2 16, .ctrx1 3 16] s ∧
    exec .ctrx8 s = execAll ((List.finRange 8).map fun k => .ctrx1 k 16) s

/-- Decryption equals encryption (44_ctr.md section 3; R219 is marked derived): the output of a CTRX1, CTRX4 or CTRX8 put
back into the input slots and run again from the same state restores the input. -/
def Obligations.DecryptionIsEncryption : Prop :=
  ∀ (s t u : State),
    (∀ slot n, 1 ≤ n → n ≤ 16 → s.sv = true → s.cv = true → s.cpart = false →
      exec (.ctrx1 slot n) s = .next t → exec (.ctrx1 slot n) (s.loadSlot slot t.dout[slot]) = .next u →
      ∀ b, b < n → byteAt u.dout[slot] b = byteAt s.din[slot] b) ∧
    (∀ i lanes, (i = .ctrx4 ∧ lanes = 4) ∨ (i = .ctrx8 ∧ lanes = 8) → s.params.pipe = true → s.sv = true →
      s.cv = true → s.cpart = false → exec i s = .next t → exec i { s with din := t.dout } = .next u →
      ∀ j : Fin 8, j.val < lanes → u.dout[j] = s.din[j])

/-! ## Control and sequences -/

/-- NOP (45_control.md section 1): it completes in every state and changes nothing but BUSY and DONE. -/
def Obligations.NopResult : Prop :=
  ∀ s : State, exec .nop s = .next { s with busy := false, done := true }

/-- ZERO (45_control.md section 1, 10_state.md section 5): it completes in every state; the ephemeral state is cleared,
with ALL = 1 the master key too, and the error record, CTRL and the rest stay. -/
def Obligations.ZeroResult : Prop :=
  ∀ s : State,
    let cleared : State :=
      { s with h := 0, hv := false, ek := 0, erk := zeroSchedule, sv := false, eksz := .aes128, acc := 0, alen := 0,
               mlen := 0, apart := false, mpart := false, ph := .idle, hmode := .polyval,
               htab := Vector.replicate 6 0, tag := 0, tv := false, ctr := 0, cv := false, cpart := false,
               din := Vector.replicate 8 0, dout := Vector.replicate 8 0, nonce := 0, busy := false, done := true }
    exec (.zero .ephemeral) s = .next cleared ∧
    exec (.zero .all) s = .next { cleared with key := 0, mrk := zeroSchedule, kv := false, mksz := .aes128 }

/-- Sealing one block and opening it again (45_control.md section 2; R249 is marked derived): with a valid master key,
whatever the key, the nonce and the block, the seal commands complete, the open commands complete on the sealed block
and its tag, the recovered bytes are the plaintext and the recomputed tag is the received one. -/
def Obligations.SealThenOpenOneBlock : Prop :=
  ∀ (n : Nat) (s : State), 1 ≤ n → n ≤ 16 → n ≤ s.params.maxLenBytes → s.kv = true →
    ∃ t u, execAll (sealOneBlock n) s = .next t ∧
      execAll (openOneBlock n) ((t.loadSlot 0 t.tag).loadSlot 1 t.dout[0]) = .next u ∧
      (∀ b, b < 16 → byteAt u.dout[1] b = if b < n then byteAt s.din[0] b else 0) ∧ u.tag = t.tag ∧ u.tv = true
end

