-- ==== Sys2Proof/Laws/Bytes.lean ====
section
/-! SUPPORT. Reading back the bytes and words of fields. -/

namespace Sys2Proof.Machine

theorem blockOfBytesUpto_getLsbD (f : Nat → Byte) (k b : Nat) (small : k ≤ 16) :
    (blockOfBytesUpto f k).getLsbD b = (decide (b < 8 * k) && (f (b / 8)).getLsbD (b % 8)) := by
  induction k with
  | zero => simp [blockOfBytesUpto]
  | succ k ih =>
    simp only [blockOfBytesUpto, BitVec.getLsbD_or, BitVec.getLsbD_shiftLeft, BitVec.getLsbD_setWidth,
      ih (by omega)]
    by_cases low : b < 8 * k
    · simp [low, show b < 8 * (k + 1) by omega]
    · by_cases mid : b < 8 * (k + 1)
      · have hq : b / 8 = k := by omega
        have hr : b % 8 = b - 8 * k := by omega
        simp [low, mid, hq, hr, show b < 128 by omega, show b - 8 * k < 128 by omega]
      · have hge : 8 ≤ b - 8 * k := by omega
        simp [low, mid, BitVec.getLsbD_of_ge _ _ hge]

/-- Byte i of a block built from bytes. -/
@[simp] theorem byteAt_blockOfBytes (f : Nat → Byte) {i : Nat} (inside : i < 16) :
    byteAt (blockOfBytes f) i = f i := by
  apply BitVec.eq_of_getLsbD_eq
  intro b hb
  have hq : (8 * i + b) / 8 = i := by omega
  have hr : (8 * i + b) % 8 = b := by omega
  rw [byteAt, BitVec.getLsbD_extractLsb', blockOfBytes, blockOfBytesUpto_getLsbD f 16 _ (Nat.le_refl _), hq, hr]
  simp [hb, show 8 * i + b < 8 * 16 by omega]

/-- Two blocks with the same sixteen bytes are equal. -/
theorem block_ext {a b : Block} (bytes : ∀ i, i < 16 → byteAt a i = byteAt b i) : a = b := by
  apply BitVec.eq_of_getLsbD_eq
  intro k hk
  have h := congrArg (fun x : Byte => x.getLsbD (k % 8)) (bytes (k / 8) (by omega))
  simpa [byteAt, show k % 8 < 8 by omega, show 8 * (k / 8) + k % 8 = k by omega] using h

theorem byteAt_firstBytes (n : Nat) (b : Block) {i : Nat} (inside : i < 16) :
    byteAt (firstBytes n b) i = if i < n then byteAt b i else 0 := by
  simp [firstBytes, inside]

theorem byteAt_reverseBytes (b : Block) {i : Nat} (inside : i < 16) :
    byteAt (reverseBytes b) i = byteAt b (15 - i) := by
  simp [reverseBytes, inside]

/-- A whole block is its first sixteen bytes. -/
@[simp] theorem firstBytes_full (b : Block) : firstBytes 16 b = b :=
  block_ext fun i hi => by simp [byteAt_firstBytes, hi]

@[simp] theorem reverseBytes_reverseBytes (b : Block) : reverseBytes (reverseBytes b) = b :=
  block_ext fun i hi => by
    rw [byteAt_reverseBytes _ hi, byteAt_reverseBytes _ (by omega : 15 - i < 16)]
    congr 1
    omega

@[simp] theorem byteAt_xor {w : Nat} (a b : BitVec w) (i : Nat) : byteAt (a ^^^ b) i = byteAt a i ^^^ byteAt b i := by
  apply BitVec.eq_of_getLsbD_eq
  intro k hk
  simp [byteAt, hk]

theorem setWordAt_getLsbD {w : Nat} (b : BitVec w) (i : Nat) (v : Word) (k : Nat) (inside : k < w) :
    (setWordAt b i v).getLsbD k =
      if 32 * i ≤ k ∧ k < 32 * i + 32 then v.getLsbD (k - 32 * i) else b.getLsbD k := by
  have hw : k - 32 * i < w := by omega
  simp only [setWordAt, BitVec.getLsbD_or, BitVec.getLsbD_and, BitVec.getLsbD_not, BitVec.getLsbD_shiftLeft,
    BitVec.getLsbD_setWidth, BitVec.getLsbD_allOnes, inside, hw, decide_true, Bool.true_and]
  by_cases lo : k < 32 * i
  · simp [lo, show ¬ 32 * i ≤ k by omega]
  · by_cases hi : k - 32 * i < 32
    · simp [lo, hi, show 32 * i ≤ k by omega, show k < 32 * i + 32 by omega]
    · simp [lo, hi, show ¬ k < 32 * i + 32 by omega, BitVec.getLsbD_of_ge v _ (by omega : 32 ≤ k - 32 * i)]

/-- The word written is the word read. -/
theorem wordAt_setWordAt_same {w : Nat} (b : BitVec w) (i : Nat) (v : Word) (inside : 32 * i + 32 ≤ w) :
    wordAt (setWordAt b i v) i = v := by
  apply BitVec.eq_of_getLsbD_eq
  intro k hk
  simp [wordAt, hk, setWordAt_getLsbD b i v (32 * i + k) (by omega)]

/-- Writing a word leaves the bytes of the other words. -/
theorem byteAt_setWordAt_other {w : Nat} (b : BitVec w) (i j : Nat) (v : Word) (inside : 8 * j + 8 ≤ w)
    (other : j / 4 ≠ i) : byteAt (setWordAt b i v) j = byteAt b j := by
  apply BitVec.eq_of_getLsbD_eq
  intro k hk
  have outside : ¬ (32 * i ≤ 8 * j + k ∧ 8 * j + k < 32 * i + 32) := by omega
  simp [byteAt, hk, setWordAt_getLsbD b i v (8 * j + k) (by omega), outside]

/-- Byte k of a written word is byte 4i+k of the field. -/
theorem byteAt_setWordAt_same {w : Nat} (b : BitVec w) (i k : Nat) (v : Word) (inside : 32 * i + 32 ≤ w)
    (lane : k < 4) : byteAt (setWordAt b i v) (4 * i + k) = v.extractLsb' (8 * k) 8 := by
  apply BitVec.eq_of_getLsbD_eq
  intro c hc
  have within : 32 * i ≤ 8 * (4 * i + k) + c ∧ 8 * (4 * i + k) + c < 32 * i + 32 := by omega
  simp [byteAt, hc, setWordAt_getLsbD b i v (8 * (4 * i + k) + c) (by omega), within,
    show 8 * (4 * i + k) + c - 32 * i = 8 * k + c by omega]

theorem incBy_succ (k : Nat) (c : Block) : incBy (k + 1) c = inc (incBy k c) := by
  induction k generalizing c with
  | zero => rfl
  | succ k ih => rw [incBy, ih, incBy]

end Sys2Proof.Machine
end

