-- ==== Sys2Proof/Laws/State.lean ====
section
/-! SUPPORT. One lemma per field per shared update of State, so that no proof unfolds a record update. -/

namespace Sys2Proof.Machine

variable (s : State)

/-! ## hashClear -/

@[simp] theorem State.hashClear_ieDone : (s.hashClear).ieDone = s.ieDone := rfl
@[simp] theorem State.hashClear_ieErr : (s.hashClear).ieErr = s.ieErr := rfl
@[simp] theorem State.hashClear_busy : (s.hashClear).busy = s.busy := rfl
@[simp] theorem State.hashClear_done : (s.hashClear).done = s.done := rfl
@[simp] theorem State.hashClear_err : (s.hashClear).err = s.err := rfl
@[simp] theorem State.hashClear_errcode : (s.hashClear).errcode = s.errcode := rfl
@[simp] theorem State.hashClear_errinfo : (s.hashClear).errinfo = s.errinfo := rfl
@[simp] theorem State.hashClear_alen : (s.hashClear).alen = 0 := rfl
@[simp] theorem State.hashClear_mlen : (s.hashClear).mlen = 0 := rfl
@[simp] theorem State.hashClear_key : (s.hashClear).key = s.key := rfl
@[simp] theorem State.hashClear_nonce : (s.hashClear).nonce = s.nonce := rfl
@[simp] theorem State.hashClear_tag : (s.hashClear).tag = s.tag := rfl
@[simp] theorem State.hashClear_acc : (s.hashClear).acc = 0 := rfl
@[simp] theorem State.hashClear_ctr : (s.hashClear).ctr = s.ctr := rfl
@[simp] theorem State.hashClear_din : (s.hashClear).din = s.din := rfl
@[simp] theorem State.hashClear_dout : (s.hashClear).dout = s.dout := rfl
@[simp] theorem State.hashClear_mrk : (s.hashClear).mrk = s.mrk := rfl
@[simp] theorem State.hashClear_kv : (s.hashClear).kv = s.kv := rfl
@[simp] theorem State.hashClear_mksz : (s.hashClear).mksz = s.mksz := rfl
@[simp] theorem State.hashClear_h : (s.hashClear).h = s.h := rfl
@[simp] theorem State.hashClear_hv : (s.hashClear).hv = s.hv := rfl
@[simp] theorem State.hashClear_ek : (s.hashClear).ek = s.ek := rfl
@[simp] theorem State.hashClear_erk : (s.hashClear).erk = s.erk := rfl
@[simp] theorem State.hashClear_eksz : (s.hashClear).eksz = s.eksz := rfl
@[simp] theorem State.hashClear_sv : (s.hashClear).sv = s.sv := rfl
@[simp] theorem State.hashClear_htab : (s.hashClear).htab = Vector.replicate 6 0 := rfl
@[simp] theorem State.hashClear_ph : (s.hashClear).ph = .idle := rfl
@[simp] theorem State.hashClear_hmode : (s.hashClear).hmode = .polyval := rfl
@[simp] theorem State.hashClear_apart : (s.hashClear).apart = false := rfl
@[simp] theorem State.hashClear_mpart : (s.hashClear).mpart = false := rfl
@[simp] theorem State.hashClear_tv : (s.hashClear).tv = s.tv := rfl
@[simp] theorem State.hashClear_cv : (s.hashClear).cv = s.cv := rfl
@[simp] theorem State.hashClear_cpart : (s.hashClear).cpart = s.cpart := rfl
@[simp] theorem State.hashClear_pending : (s.hashClear).pending = s.pending := rfl
@[simp] theorem State.hashClear_params : (s.hashClear).params = s.params := rfl
@[simp] theorem State.hashClear_inputs : (s.hashClear).inputs = s.inputs := rfl
@[simp] theorem State.hashClear_reads : (s.hashClear).reads = s.reads := rfl
@[simp] theorem State.hashClear_draws : (s.hashClear).draws = s.draws := rfl

/-! ## ctrClear -/

@[simp] theorem State.ctrClear_ieDone : (s.ctrClear).ieDone = s.ieDone := rfl
@[simp] theorem State.ctrClear_ieErr : (s.ctrClear).ieErr = s.ieErr := rfl
@[simp] theorem State.ctrClear_busy : (s.ctrClear).busy = s.busy := rfl
@[simp] theorem State.ctrClear_done : (s.ctrClear).done = s.done := rfl
@[simp] theorem State.ctrClear_err : (s.ctrClear).err = s.err := rfl
@[simp] theorem State.ctrClear_errcode : (s.ctrClear).errcode = s.errcode := rfl
@[simp] theorem State.ctrClear_errinfo : (s.ctrClear).errinfo = s.errinfo := rfl
@[simp] theorem State.ctrClear_alen : (s.ctrClear).alen = s.alen := rfl
@[simp] theorem State.ctrClear_mlen : (s.ctrClear).mlen = s.mlen := rfl
@[simp] theorem State.ctrClear_key : (s.ctrClear).key = s.key := rfl
@[simp] theorem State.ctrClear_nonce : (s.ctrClear).nonce = s.nonce := rfl
@[simp] theorem State.ctrClear_tag : (s.ctrClear).tag = 0 := rfl
@[simp] theorem State.ctrClear_acc : (s.ctrClear).acc = s.acc := rfl
@[simp] theorem State.ctrClear_ctr : (s.ctrClear).ctr = 0 := rfl
@[simp] theorem State.ctrClear_din : (s.ctrClear).din = s.din := rfl
@[simp] theorem State.ctrClear_dout : (s.ctrClear).dout = s.dout := rfl
@[simp] theorem State.ctrClear_mrk : (s.ctrClear).mrk = s.mrk := rfl
@[simp] theorem State.ctrClear_kv : (s.ctrClear).kv = s.kv := rfl
@[simp] theorem State.ctrClear_mksz : (s.ctrClear).mksz = s.mksz := rfl
@[simp] theorem State.ctrClear_h : (s.ctrClear).h = s.h := rfl
@[simp] theorem State.ctrClear_hv : (s.ctrClear).hv = s.hv := rfl
@[simp] theorem State.ctrClear_ek : (s.ctrClear).ek = s.ek := rfl
@[simp] theorem State.ctrClear_erk : (s.ctrClear).erk = s.erk := rfl
@[simp] theorem State.ctrClear_eksz : (s.ctrClear).eksz = s.eksz := rfl
@[simp] theorem State.ctrClear_sv : (s.ctrClear).sv = s.sv := rfl
@[simp] theorem State.ctrClear_htab : (s.ctrClear).htab = s.htab := rfl
@[simp] theorem State.ctrClear_ph : (s.ctrClear).ph = s.ph := rfl
@[simp] theorem State.ctrClear_hmode : (s.ctrClear).hmode = s.hmode := rfl
@[simp] theorem State.ctrClear_apart : (s.ctrClear).apart = s.apart := rfl
@[simp] theorem State.ctrClear_mpart : (s.ctrClear).mpart = s.mpart := rfl
@[simp] theorem State.ctrClear_tv : (s.ctrClear).tv = false := rfl
@[simp] theorem State.ctrClear_cv : (s.ctrClear).cv = false := rfl
@[simp] theorem State.ctrClear_cpart : (s.ctrClear).cpart = false := rfl
@[simp] theorem State.ctrClear_pending : (s.ctrClear).pending = s.pending := rfl
@[simp] theorem State.ctrClear_params : (s.ctrClear).params = s.params := rfl
@[simp] theorem State.ctrClear_inputs : (s.ctrClear).inputs = s.inputs := rfl
@[simp] theorem State.ctrClear_reads : (s.ctrClear).reads = s.reads := rfl
@[simp] theorem State.ctrClear_draws : (s.ctrClear).draws = s.draws := rfl

/-! ## subkeyClear -/

@[simp] theorem State.subkeyClear_ieDone : (s.subkeyClear).ieDone = s.ieDone := rfl
@[simp] theorem State.subkeyClear_ieErr : (s.subkeyClear).ieErr = s.ieErr := rfl
@[simp] theorem State.subkeyClear_busy : (s.subkeyClear).busy = s.busy := rfl
@[simp] theorem State.subkeyClear_done : (s.subkeyClear).done = s.done := rfl
@[simp] theorem State.subkeyClear_err : (s.subkeyClear).err = s.err := rfl
@[simp] theorem State.subkeyClear_errcode : (s.subkeyClear).errcode = s.errcode := rfl
@[simp] theorem State.subkeyClear_errinfo : (s.subkeyClear).errinfo = s.errinfo := rfl
@[simp] theorem State.subkeyClear_alen : (s.subkeyClear).alen = s.alen := rfl
@[simp] theorem State.subkeyClear_mlen : (s.subkeyClear).mlen = s.mlen := rfl
@[simp] theorem State.subkeyClear_key : (s.subkeyClear).key = s.key := rfl
@[simp] theorem State.subkeyClear_nonce : (s.subkeyClear).nonce = s.nonce := rfl
@[simp] theorem State.subkeyClear_tag : (s.subkeyClear).tag = s.tag := rfl
@[simp] theorem State.subkeyClear_acc : (s.subkeyClear).acc = s.acc := rfl
@[simp] theorem State.subkeyClear_ctr : (s.subkeyClear).ctr = s.ctr := rfl
@[simp] theorem State.subkeyClear_din : (s.subkeyClear).din = s.din := rfl
@[simp] theorem State.subkeyClear_dout : (s.subkeyClear).dout = s.dout := rfl
@[simp] theorem State.subkeyClear_mrk : (s.subkeyClear).mrk = s.mrk := rfl
@[simp] theorem State.subkeyClear_kv : (s.subkeyClear).kv = s.kv := rfl
@[simp] theorem State.subkeyClear_mksz : (s.subkeyClear).mksz = s.mksz := rfl
@[simp] theorem State.subkeyClear_h : (s.subkeyClear).h = 0 := rfl
@[simp] theorem State.subkeyClear_hv : (s.subkeyClear).hv = false := rfl
@[simp] theorem State.subkeyClear_ek : (s.subkeyClear).ek = 0 := rfl
@[simp] theorem State.subkeyClear_erk : (s.subkeyClear).erk = zeroSchedule := rfl
@[simp] theorem State.subkeyClear_eksz : (s.subkeyClear).eksz = .aes128 := rfl
@[simp] theorem State.subkeyClear_sv : (s.subkeyClear).sv = false := rfl
@[simp] theorem State.subkeyClear_htab : (s.subkeyClear).htab = s.htab := rfl
@[simp] theorem State.subkeyClear_ph : (s.subkeyClear).ph = s.ph := rfl
@[simp] theorem State.subkeyClear_hmode : (s.subkeyClear).hmode = s.hmode := rfl
@[simp] theorem State.subkeyClear_apart : (s.subkeyClear).apart = s.apart := rfl
@[simp] theorem State.subkeyClear_mpart : (s.subkeyClear).mpart = s.mpart := rfl
@[simp] theorem State.subkeyClear_tv : (s.subkeyClear).tv = s.tv := rfl
@[simp] theorem State.subkeyClear_cv : (s.subkeyClear).cv = s.cv := rfl
@[simp] theorem State.subkeyClear_cpart : (s.subkeyClear).cpart = s.cpart := rfl
@[simp] theorem State.subkeyClear_pending : (s.subkeyClear).pending = s.pending := rfl
@[simp] theorem State.subkeyClear_params : (s.subkeyClear).params = s.params := rfl
@[simp] theorem State.subkeyClear_inputs : (s.subkeyClear).inputs = s.inputs := rfl
@[simp] theorem State.subkeyClear_reads : (s.subkeyClear).reads = s.reads := rfl
@[simp] theorem State.subkeyClear_draws : (s.subkeyClear).draws = s.draws := rfl

/-! ## dataClear -/

@[simp] theorem State.dataClear_ieDone : (s.dataClear).ieDone = s.ieDone := rfl
@[simp] theorem State.dataClear_ieErr : (s.dataClear).ieErr = s.ieErr := rfl
@[simp] theorem State.dataClear_busy : (s.dataClear).busy = s.busy := rfl
@[simp] theorem State.dataClear_done : (s.dataClear).done = s.done := rfl
@[simp] theorem State.dataClear_err : (s.dataClear).err = s.err := rfl
@[simp] theorem State.dataClear_errcode : (s.dataClear).errcode = s.errcode := rfl
@[simp] theorem State.dataClear_errinfo : (s.dataClear).errinfo = s.errinfo := rfl
@[simp] theorem State.dataClear_alen : (s.dataClear).alen = s.alen := rfl
@[simp] theorem State.dataClear_mlen : (s.dataClear).mlen = s.mlen := rfl
@[simp] theorem State.dataClear_key : (s.dataClear).key = s.key := rfl
@[simp] theorem State.dataClear_nonce : (s.dataClear).nonce = 0 := rfl
@[simp] theorem State.dataClear_tag : (s.dataClear).tag = s.tag := rfl
@[simp] theorem State.dataClear_acc : (s.dataClear).acc = s.acc := rfl
@[simp] theorem State.dataClear_ctr : (s.dataClear).ctr = s.ctr := rfl
@[simp] theorem State.dataClear_din : (s.dataClear).din = Vector.replicate 8 0 := rfl
@[simp] theorem State.dataClear_dout : (s.dataClear).dout = Vector.replicate 8 0 := rfl
@[simp] theorem State.dataClear_mrk : (s.dataClear).mrk = s.mrk := rfl
@[simp] theorem State.dataClear_kv : (s.dataClear).kv = s.kv := rfl
@[simp] theorem State.dataClear_mksz : (s.dataClear).mksz = s.mksz := rfl
@[simp] theorem State.dataClear_h : (s.dataClear).h = s.h := rfl
@[simp] theorem State.dataClear_hv : (s.dataClear).hv = s.hv := rfl
@[simp] theorem State.dataClear_ek : (s.dataClear).ek = s.ek := rfl
@[simp] theorem State.dataClear_erk : (s.dataClear).erk = s.erk := rfl
@[simp] theorem State.dataClear_eksz : (s.dataClear).eksz = s.eksz := rfl
@[simp] theorem State.dataClear_sv : (s.dataClear).sv = s.sv := rfl
@[simp] theorem State.dataClear_htab : (s.dataClear).htab = s.htab := rfl
@[simp] theorem State.dataClear_ph : (s.dataClear).ph = s.ph := rfl
@[simp] theorem State.dataClear_hmode : (s.dataClear).hmode = s.hmode := rfl
@[simp] theorem State.dataClear_apart : (s.dataClear).apart = s.apart := rfl
@[simp] theorem State.dataClear_mpart : (s.dataClear).mpart = s.mpart := rfl
@[simp] theorem State.dataClear_tv : (s.dataClear).tv = s.tv := rfl
@[simp] theorem State.dataClear_cv : (s.dataClear).cv = s.cv := rfl
@[simp] theorem State.dataClear_cpart : (s.dataClear).cpart = s.cpart := rfl
@[simp] theorem State.dataClear_pending : (s.dataClear).pending = s.pending := rfl
@[simp] theorem State.dataClear_params : (s.dataClear).params = s.params := rfl
@[simp] theorem State.dataClear_inputs : (s.dataClear).inputs = s.inputs := rfl
@[simp] theorem State.dataClear_reads : (s.dataClear).reads = s.reads := rfl
@[simp] theorem State.dataClear_draws : (s.dataClear).draws = s.draws := rfl

/-! ## masterClear -/

@[simp] theorem State.masterClear_ieDone : (s.masterClear).ieDone = s.ieDone := rfl
@[simp] theorem State.masterClear_ieErr : (s.masterClear).ieErr = s.ieErr := rfl
@[simp] theorem State.masterClear_busy : (s.masterClear).busy = s.busy := rfl
@[simp] theorem State.masterClear_done : (s.masterClear).done = s.done := rfl
@[simp] theorem State.masterClear_err : (s.masterClear).err = s.err := rfl
@[simp] theorem State.masterClear_errcode : (s.masterClear).errcode = s.errcode := rfl
@[simp] theorem State.masterClear_errinfo : (s.masterClear).errinfo = s.errinfo := rfl
@[simp] theorem State.masterClear_alen : (s.masterClear).alen = s.alen := rfl
@[simp] theorem State.masterClear_mlen : (s.masterClear).mlen = s.mlen := rfl
@[simp] theorem State.masterClear_key : (s.masterClear).key = 0 := rfl
@[simp] theorem State.masterClear_nonce : (s.masterClear).nonce = s.nonce := rfl
@[simp] theorem State.masterClear_tag : (s.masterClear).tag = s.tag := rfl
@[simp] theorem State.masterClear_acc : (s.masterClear).acc = s.acc := rfl
@[simp] theorem State.masterClear_ctr : (s.masterClear).ctr = s.ctr := rfl
@[simp] theorem State.masterClear_din : (s.masterClear).din = s.din := rfl
@[simp] theorem State.masterClear_dout : (s.masterClear).dout = s.dout := rfl
@[simp] theorem State.masterClear_mrk : (s.masterClear).mrk = zeroSchedule := rfl
@[simp] theorem State.masterClear_kv : (s.masterClear).kv = false := rfl
@[simp] theorem State.masterClear_mksz : (s.masterClear).mksz = .aes128 := rfl
@[simp] theorem State.masterClear_h : (s.masterClear).h = s.h := rfl
@[simp] theorem State.masterClear_hv : (s.masterClear).hv = s.hv := rfl
@[simp] theorem State.masterClear_ek : (s.masterClear).ek = s.ek := rfl
@[simp] theorem State.masterClear_erk : (s.masterClear).erk = s.erk := rfl
@[simp] theorem State.masterClear_eksz : (s.masterClear).eksz = s.eksz := rfl
@[simp] theorem State.masterClear_sv : (s.masterClear).sv = s.sv := rfl
@[simp] theorem State.masterClear_htab : (s.masterClear).htab = s.htab := rfl
@[simp] theorem State.masterClear_ph : (s.masterClear).ph = s.ph := rfl
@[simp] theorem State.masterClear_hmode : (s.masterClear).hmode = s.hmode := rfl
@[simp] theorem State.masterClear_apart : (s.masterClear).apart = s.apart := rfl
@[simp] theorem State.masterClear_mpart : (s.masterClear).mpart = s.mpart := rfl
@[simp] theorem State.masterClear_tv : (s.masterClear).tv = s.tv := rfl
@[simp] theorem State.masterClear_cv : (s.masterClear).cv = s.cv := rfl
@[simp] theorem State.masterClear_cpart : (s.masterClear).cpart = s.cpart := rfl
@[simp] theorem State.masterClear_pending : (s.masterClear).pending = s.pending := rfl
@[simp] theorem State.masterClear_params : (s.masterClear).params = s.params := rfl
@[simp] theorem State.masterClear_inputs : (s.masterClear).inputs = s.inputs := rfl
@[simp] theorem State.masterClear_reads : (s.masterClear).reads = s.reads := rfl
@[simp] theorem State.masterClear_draws : (s.masterClear).draws = s.draws := rfl

/-! ## recordError -/

@[simp] theorem State.recordError_ieDone (e : ErrCode) (info : Word) : (s.recordError e info).ieDone = s.ieDone := rfl
@[simp] theorem State.recordError_ieErr (e : ErrCode) (info : Word) : (s.recordError e info).ieErr = s.ieErr := rfl
@[simp] theorem State.recordError_busy (e : ErrCode) (info : Word) : (s.recordError e info).busy = s.busy := rfl
@[simp] theorem State.recordError_done (e : ErrCode) (info : Word) : (s.recordError e info).done = s.done := rfl
@[simp] theorem State.recordError_err (e : ErrCode) (info : Word) : (s.recordError e info).err = true := rfl
@[simp] theorem State.recordError_errcode (e : ErrCode) (info : Word) : (s.recordError e info).errcode = e.code := rfl
@[simp] theorem State.recordError_errinfo (e : ErrCode) (info : Word) : (s.recordError e info).errinfo = info := rfl
@[simp] theorem State.recordError_alen (e : ErrCode) (info : Word) : (s.recordError e info).alen = s.alen := rfl
@[simp] theorem State.recordError_mlen (e : ErrCode) (info : Word) : (s.recordError e info).mlen = s.mlen := rfl
@[simp] theorem State.recordError_key (e : ErrCode) (info : Word) : (s.recordError e info).key = s.key := rfl
@[simp] theorem State.recordError_nonce (e : ErrCode) (info : Word) : (s.recordError e info).nonce = s.nonce := rfl
@[simp] theorem State.recordError_tag (e : ErrCode) (info : Word) : (s.recordError e info).tag = s.tag := rfl
@[simp] theorem State.recordError_acc (e : ErrCode) (info : Word) : (s.recordError e info).acc = s.acc := rfl
@[simp] theorem State.recordError_ctr (e : ErrCode) (info : Word) : (s.recordError e info).ctr = s.ctr := rfl
@[simp] theorem State.recordError_din (e : ErrCode) (info : Word) : (s.recordError e info).din = s.din := rfl
@[simp] theorem State.recordError_dout (e : ErrCode) (info : Word) : (s.recordError e info).dout = s.dout := rfl
@[simp] theorem State.recordError_mrk (e : ErrCode) (info : Word) : (s.recordError e info).mrk = s.mrk := rfl
@[simp] theorem State.recordError_kv (e : ErrCode) (info : Word) : (s.recordError e info).kv = s.kv := rfl
@[simp] theorem State.recordError_mksz (e : ErrCode) (info : Word) : (s.recordError e info).mksz = s.mksz := rfl
@[simp] theorem State.recordError_h (e : ErrCode) (info : Word) : (s.recordError e info).h = s.h := rfl
@[simp] theorem State.recordError_hv (e : ErrCode) (info : Word) : (s.recordError e info).hv = s.hv := rfl
@[simp] theorem State.recordError_ek (e : ErrCode) (info : Word) : (s.recordError e info).ek = s.ek := rfl
@[simp] theorem State.recordError_erk (e : ErrCode) (info : Word) : (s.recordError e info).erk = s.erk := rfl
@[simp] theorem State.recordError_eksz (e : ErrCode) (info : Word) : (s.recordError e info).eksz = s.eksz := rfl
@[simp] theorem State.recordError_sv (e : ErrCode) (info : Word) : (s.recordError e info).sv = s.sv := rfl
@[simp] theorem State.recordError_htab (e : ErrCode) (info : Word) : (s.recordError e info).htab = s.htab := rfl
@[simp] theorem State.recordError_ph (e : ErrCode) (info : Word) : (s.recordError e info).ph = s.ph := rfl
@[simp] theorem State.recordError_hmode (e : ErrCode) (info : Word) : (s.recordError e info).hmode = s.hmode := rfl
@[simp] theorem State.recordError_apart (e : ErrCode) (info : Word) : (s.recordError e info).apart = s.apart := rfl
@[simp] theorem State.recordError_mpart (e : ErrCode) (info : Word) : (s.recordError e info).mpart = s.mpart := rfl
@[simp] theorem State.recordError_tv (e : ErrCode) (info : Word) : (s.recordError e info).tv = s.tv := rfl
@[simp] theorem State.recordError_cv (e : ErrCode) (info : Word) : (s.recordError e info).cv = s.cv := rfl
@[simp] theorem State.recordError_cpart (e : ErrCode) (info : Word) : (s.recordError e info).cpart = s.cpart := rfl
@[simp] theorem State.recordError_pending (e : ErrCode) (info : Word) : (s.recordError e info).pending = s.pending := rfl
@[simp] theorem State.recordError_params (e : ErrCode) (info : Word) : (s.recordError e info).params = s.params := rfl
@[simp] theorem State.recordError_inputs (e : ErrCode) (info : Word) : (s.recordError e info).inputs = s.inputs := rfl
@[simp] theorem State.recordError_reads (e : ErrCode) (info : Word) : (s.recordError e info).reads = s.reads := rfl
@[simp] theorem State.recordError_draws (e : ErrCode) (info : Word) : (s.recordError e info).draws = s.draws := rfl

/-! ## reject -/

@[simp] theorem State.reject_ieDone (e : ErrCode) : (s.reject e).ieDone = s.ieDone := rfl
@[simp] theorem State.reject_ieErr (e : ErrCode) : (s.reject e).ieErr = s.ieErr := rfl
@[simp] theorem State.reject_busy (e : ErrCode) : (s.reject e).busy = false := rfl
@[simp] theorem State.reject_done (e : ErrCode) : (s.reject e).done = s.done := rfl
@[simp] theorem State.reject_err (e : ErrCode) : (s.reject e).err = true := rfl
@[simp] theorem State.reject_errcode (e : ErrCode) : (s.reject e).errcode = e.code := rfl
@[simp] theorem State.reject_errinfo (e : ErrCode) : (s.reject e).errinfo = s.pending := rfl
@[simp] theorem State.reject_alen (e : ErrCode) : (s.reject e).alen = s.alen := rfl
@[simp] theorem State.reject_mlen (e : ErrCode) : (s.reject e).mlen = s.mlen := rfl
@[simp] theorem State.reject_key (e : ErrCode) : (s.reject e).key = s.key := rfl
@[simp] theorem State.reject_nonce (e : ErrCode) : (s.reject e).nonce = s.nonce := rfl
@[simp] theorem State.reject_tag (e : ErrCode) : (s.reject e).tag = s.tag := rfl
@[simp] theorem State.reject_acc (e : ErrCode) : (s.reject e).acc = s.acc := rfl
@[simp] theorem State.reject_ctr (e : ErrCode) : (s.reject e).ctr = s.ctr := rfl
@[simp] theorem State.reject_din (e : ErrCode) : (s.reject e).din = s.din := rfl
@[simp] theorem State.reject_dout (e : ErrCode) : (s.reject e).dout = s.dout := rfl
@[simp] theorem State.reject_mrk (e : ErrCode) : (s.reject e).mrk = s.mrk := rfl
@[simp] theorem State.reject_kv (e : ErrCode) : (s.reject e).kv = s.kv := rfl
@[simp] theorem State.reject_mksz (e : ErrCode) : (s.reject e).mksz = s.mksz := rfl
@[simp] theorem State.reject_h (e : ErrCode) : (s.reject e).h = s.h := rfl
@[simp] theorem State.reject_hv (e : ErrCode) : (s.reject e).hv = s.hv := rfl
@[simp] theorem State.reject_ek (e : ErrCode) : (s.reject e).ek = s.ek := rfl
@[simp] theorem State.reject_erk (e : ErrCode) : (s.reject e).erk = s.erk := rfl
@[simp] theorem State.reject_eksz (e : ErrCode) : (s.reject e).eksz = s.eksz := rfl
@[simp] theorem State.reject_sv (e : ErrCode) : (s.reject e).sv = s.sv := rfl
@[simp] theorem State.reject_htab (e : ErrCode) : (s.reject e).htab = s.htab := rfl
@[simp] theorem State.reject_ph (e : ErrCode) : (s.reject e).ph = s.ph := rfl
@[simp] theorem State.reject_hmode (e : ErrCode) : (s.reject e).hmode = s.hmode := rfl
@[simp] theorem State.reject_apart (e : ErrCode) : (s.reject e).apart = s.apart := rfl
@[simp] theorem State.reject_mpart (e : ErrCode) : (s.reject e).mpart = s.mpart := rfl
@[simp] theorem State.reject_tv (e : ErrCode) : (s.reject e).tv = s.tv := rfl
@[simp] theorem State.reject_cv (e : ErrCode) : (s.reject e).cv = s.cv := rfl
@[simp] theorem State.reject_cpart (e : ErrCode) : (s.reject e).cpart = s.cpart := rfl
@[simp] theorem State.reject_pending (e : ErrCode) : (s.reject e).pending = s.pending := rfl
@[simp] theorem State.reject_params (e : ErrCode) : (s.reject e).params = s.params := rfl
@[simp] theorem State.reject_inputs (e : ErrCode) : (s.reject e).inputs = s.inputs := rfl
@[simp] theorem State.reject_reads (e : ErrCode) : (s.reject e).reads = s.reads := rfl
@[simp] theorem State.reject_draws (e : ErrCode) : (s.reject e).draws = s.draws := rfl

/-! ## clearError -/

@[simp] theorem State.clearError_ieDone : (s.clearError).ieDone = s.ieDone := rfl
@[simp] theorem State.clearError_ieErr : (s.clearError).ieErr = s.ieErr := rfl
@[simp] theorem State.clearError_busy : (s.clearError).busy = s.busy := rfl
@[simp] theorem State.clearError_done : (s.clearError).done = s.done := rfl
@[simp] theorem State.clearError_err : (s.clearError).err = false := rfl
@[simp] theorem State.clearError_errcode : (s.clearError).errcode = 0 := rfl
@[simp] theorem State.clearError_errinfo : (s.clearError).errinfo = 0 := rfl
@[simp] theorem State.clearError_alen : (s.clearError).alen = s.alen := rfl
@[simp] theorem State.clearError_mlen : (s.clearError).mlen = s.mlen := rfl
@[simp] theorem State.clearError_key : (s.clearError).key = s.key := rfl
@[simp] theorem State.clearError_nonce : (s.clearError).nonce = s.nonce := rfl
@[simp] theorem State.clearError_tag : (s.clearError).tag = s.tag := rfl
@[simp] theorem State.clearError_acc : (s.clearError).acc = s.acc := rfl
@[simp] theorem State.clearError_ctr : (s.clearError).ctr = s.ctr := rfl
@[simp] theorem State.clearError_din : (s.clearError).din = s.din := rfl
@[simp] theorem State.clearError_dout : (s.clearError).dout = s.dout := rfl
@[simp] theorem State.clearError_mrk : (s.clearError).mrk = s.mrk := rfl
@[simp] theorem State.clearError_kv : (s.clearError).kv = s.kv := rfl
@[simp] theorem State.clearError_mksz : (s.clearError).mksz = s.mksz := rfl
@[simp] theorem State.clearError_h : (s.clearError).h = s.h := rfl
@[simp] theorem State.clearError_hv : (s.clearError).hv = s.hv := rfl
@[simp] theorem State.clearError_ek : (s.clearError).ek = s.ek := rfl
@[simp] theorem State.clearError_erk : (s.clearError).erk = s.erk := rfl
@[simp] theorem State.clearError_eksz : (s.clearError).eksz = s.eksz := rfl
@[simp] theorem State.clearError_sv : (s.clearError).sv = s.sv := rfl
@[simp] theorem State.clearError_htab : (s.clearError).htab = s.htab := rfl
@[simp] theorem State.clearError_ph : (s.clearError).ph = s.ph := rfl
@[simp] theorem State.clearError_hmode : (s.clearError).hmode = s.hmode := rfl
@[simp] theorem State.clearError_apart : (s.clearError).apart = s.apart := rfl
@[simp] theorem State.clearError_mpart : (s.clearError).mpart = s.mpart := rfl
@[simp] theorem State.clearError_tv : (s.clearError).tv = s.tv := rfl
@[simp] theorem State.clearError_cv : (s.clearError).cv = s.cv := rfl
@[simp] theorem State.clearError_cpart : (s.clearError).cpart = s.cpart := rfl
@[simp] theorem State.clearError_pending : (s.clearError).pending = s.pending := rfl
@[simp] theorem State.clearError_params : (s.clearError).params = s.params := rfl
@[simp] theorem State.clearError_inputs : (s.clearError).inputs = s.inputs := rfl
@[simp] theorem State.clearError_reads : (s.clearError).reads = s.reads := rfl
@[simp] theorem State.clearError_draws : (s.clearError).draws = s.draws := rfl

/-! ## clearDone -/

@[simp] theorem State.clearDone_ieDone : (s.clearDone).ieDone = s.ieDone := rfl
@[simp] theorem State.clearDone_ieErr : (s.clearDone).ieErr = s.ieErr := rfl
@[simp] theorem State.clearDone_busy : (s.clearDone).busy = s.busy := rfl
@[simp] theorem State.clearDone_done : (s.clearDone).done = false := rfl
@[simp] theorem State.clearDone_err : (s.clearDone).err = s.err := rfl
@[simp] theorem State.clearDone_errcode : (s.clearDone).errcode = s.errcode := rfl
@[simp] theorem State.clearDone_errinfo : (s.clearDone).errinfo = s.errinfo := rfl
@[simp] theorem State.clearDone_alen : (s.clearDone).alen = s.alen := rfl
@[simp] theorem State.clearDone_mlen : (s.clearDone).mlen = s.mlen := rfl
@[simp] theorem State.clearDone_key : (s.clearDone).key = s.key := rfl
@[simp] theorem State.clearDone_nonce : (s.clearDone).nonce = s.nonce := rfl
@[simp] theorem State.clearDone_tag : (s.clearDone).tag = s.tag := rfl
@[simp] theorem State.clearDone_acc : (s.clearDone).acc = s.acc := rfl
@[simp] theorem State.clearDone_ctr : (s.clearDone).ctr = s.ctr := rfl
@[simp] theorem State.clearDone_din : (s.clearDone).din = s.din := rfl
@[simp] theorem State.clearDone_dout : (s.clearDone).dout = s.dout := rfl
@[simp] theorem State.clearDone_mrk : (s.clearDone).mrk = s.mrk := rfl
@[simp] theorem State.clearDone_kv : (s.clearDone).kv = s.kv := rfl
@[simp] theorem State.clearDone_mksz : (s.clearDone).mksz = s.mksz := rfl
@[simp] theorem State.clearDone_h : (s.clearDone).h = s.h := rfl
@[simp] theorem State.clearDone_hv : (s.clearDone).hv = s.hv := rfl
@[simp] theorem State.clearDone_ek : (s.clearDone).ek = s.ek := rfl
@[simp] theorem State.clearDone_erk : (s.clearDone).erk = s.erk := rfl
@[simp] theorem State.clearDone_eksz : (s.clearDone).eksz = s.eksz := rfl
@[simp] theorem State.clearDone_sv : (s.clearDone).sv = s.sv := rfl
@[simp] theorem State.clearDone_htab : (s.clearDone).htab = s.htab := rfl
@[simp] theorem State.clearDone_ph : (s.clearDone).ph = s.ph := rfl
@[simp] theorem State.clearDone_hmode : (s.clearDone).hmode = s.hmode := rfl
@[simp] theorem State.clearDone_apart : (s.clearDone).apart = s.apart := rfl
@[simp] theorem State.clearDone_mpart : (s.clearDone).mpart = s.mpart := rfl
@[simp] theorem State.clearDone_tv : (s.clearDone).tv = s.tv := rfl
@[simp] theorem State.clearDone_cv : (s.clearDone).cv = s.cv := rfl
@[simp] theorem State.clearDone_cpart : (s.clearDone).cpart = s.cpart := rfl
@[simp] theorem State.clearDone_pending : (s.clearDone).pending = s.pending := rfl
@[simp] theorem State.clearDone_params : (s.clearDone).params = s.params := rfl
@[simp] theorem State.clearDone_inputs : (s.clearDone).inputs = s.inputs := rfl
@[simp] theorem State.clearDone_reads : (s.clearDone).reads = s.reads := rfl
@[simp] theorem State.clearDone_draws : (s.clearDone).draws = s.draws := rfl

/-! ## accept -/

@[simp] theorem State.accept_ieDone (w : Word) : (s.accept w).ieDone = s.ieDone := rfl
@[simp] theorem State.accept_ieErr (w : Word) : (s.accept w).ieErr = s.ieErr := rfl
@[simp] theorem State.accept_busy (w : Word) : (s.accept w).busy = true := rfl
@[simp] theorem State.accept_done (w : Word) : (s.accept w).done = false := rfl
@[simp] theorem State.accept_err (w : Word) : (s.accept w).err = s.err := rfl
@[simp] theorem State.accept_errcode (w : Word) : (s.accept w).errcode = s.errcode := rfl
@[simp] theorem State.accept_errinfo (w : Word) : (s.accept w).errinfo = s.errinfo := rfl
@[simp] theorem State.accept_alen (w : Word) : (s.accept w).alen = s.alen := rfl
@[simp] theorem State.accept_mlen (w : Word) : (s.accept w).mlen = s.mlen := rfl
@[simp] theorem State.accept_key (w : Word) : (s.accept w).key = s.key := rfl
@[simp] theorem State.accept_nonce (w : Word) : (s.accept w).nonce = s.nonce := rfl
@[simp] theorem State.accept_tag (w : Word) : (s.accept w).tag = s.tag := rfl
@[simp] theorem State.accept_acc (w : Word) : (s.accept w).acc = s.acc := rfl
@[simp] theorem State.accept_ctr (w : Word) : (s.accept w).ctr = s.ctr := rfl
@[simp] theorem State.accept_din (w : Word) : (s.accept w).din = s.din := rfl
@[simp] theorem State.accept_dout (w : Word) : (s.accept w).dout = s.dout := rfl
@[simp] theorem State.accept_mrk (w : Word) : (s.accept w).mrk = s.mrk := rfl
@[simp] theorem State.accept_kv (w : Word) : (s.accept w).kv = s.kv := rfl
@[simp] theorem State.accept_mksz (w : Word) : (s.accept w).mksz = s.mksz := rfl
@[simp] theorem State.accept_h (w : Word) : (s.accept w).h = s.h := rfl
@[simp] theorem State.accept_hv (w : Word) : (s.accept w).hv = s.hv := rfl
@[simp] theorem State.accept_ek (w : Word) : (s.accept w).ek = s.ek := rfl
@[simp] theorem State.accept_erk (w : Word) : (s.accept w).erk = s.erk := rfl
@[simp] theorem State.accept_eksz (w : Word) : (s.accept w).eksz = s.eksz := rfl
@[simp] theorem State.accept_sv (w : Word) : (s.accept w).sv = s.sv := rfl
@[simp] theorem State.accept_htab (w : Word) : (s.accept w).htab = s.htab := rfl
@[simp] theorem State.accept_ph (w : Word) : (s.accept w).ph = s.ph := rfl
@[simp] theorem State.accept_hmode (w : Word) : (s.accept w).hmode = s.hmode := rfl
@[simp] theorem State.accept_apart (w : Word) : (s.accept w).apart = s.apart := rfl
@[simp] theorem State.accept_mpart (w : Word) : (s.accept w).mpart = s.mpart := rfl
@[simp] theorem State.accept_tv (w : Word) : (s.accept w).tv = s.tv := rfl
@[simp] theorem State.accept_cv (w : Word) : (s.accept w).cv = s.cv := rfl
@[simp] theorem State.accept_cpart (w : Word) : (s.accept w).cpart = s.cpart := rfl
@[simp] theorem State.accept_pending (w : Word) : (s.accept w).pending = w := rfl
@[simp] theorem State.accept_params (w : Word) : (s.accept w).params = s.params := rfl
@[simp] theorem State.accept_inputs (w : Word) : (s.accept w).inputs = s.inputs := rfl
@[simp] theorem State.accept_reads (w : Word) : (s.accept w).reads = s.reads := rfl
@[simp] theorem State.accept_draws (w : Word) : (s.accept w).draws = s.draws := rfl

/-! ## complete -/

@[simp] theorem State.complete_ieDone : (s.complete).ieDone = s.ieDone := rfl
@[simp] theorem State.complete_ieErr : (s.complete).ieErr = s.ieErr := rfl
@[simp] theorem State.complete_busy : (s.complete).busy = false := rfl
@[simp] theorem State.complete_done : (s.complete).done = true := rfl
@[simp] theorem State.complete_err : (s.complete).err = s.err := rfl
@[simp] theorem State.complete_errcode : (s.complete).errcode = s.errcode := rfl
@[simp] theorem State.complete_errinfo : (s.complete).errinfo = s.errinfo := rfl
@[simp] theorem State.complete_alen : (s.complete).alen = s.alen := rfl
@[simp] theorem State.complete_mlen : (s.complete).mlen = s.mlen := rfl
@[simp] theorem State.complete_key : (s.complete).key = s.key := rfl
@[simp] theorem State.complete_nonce : (s.complete).nonce = s.nonce := rfl
@[simp] theorem State.complete_tag : (s.complete).tag = s.tag := rfl
@[simp] theorem State.complete_acc : (s.complete).acc = s.acc := rfl
@[simp] theorem State.complete_ctr : (s.complete).ctr = s.ctr := rfl
@[simp] theorem State.complete_din : (s.complete).din = s.din := rfl
@[simp] theorem State.complete_dout : (s.complete).dout = s.dout := rfl
@[simp] theorem State.complete_mrk : (s.complete).mrk = s.mrk := rfl
@[simp] theorem State.complete_kv : (s.complete).kv = s.kv := rfl
@[simp] theorem State.complete_mksz : (s.complete).mksz = s.mksz := rfl
@[simp] theorem State.complete_h : (s.complete).h = s.h := rfl
@[simp] theorem State.complete_hv : (s.complete).hv = s.hv := rfl
@[simp] theorem State.complete_ek : (s.complete).ek = s.ek := rfl
@[simp] theorem State.complete_erk : (s.complete).erk = s.erk := rfl
@[simp] theorem State.complete_eksz : (s.complete).eksz = s.eksz := rfl
@[simp] theorem State.complete_sv : (s.complete).sv = s.sv := rfl
@[simp] theorem State.complete_htab : (s.complete).htab = s.htab := rfl
@[simp] theorem State.complete_ph : (s.complete).ph = s.ph := rfl
@[simp] theorem State.complete_hmode : (s.complete).hmode = s.hmode := rfl
@[simp] theorem State.complete_apart : (s.complete).apart = s.apart := rfl
@[simp] theorem State.complete_mpart : (s.complete).mpart = s.mpart := rfl
@[simp] theorem State.complete_tv : (s.complete).tv = s.tv := rfl
@[simp] theorem State.complete_cv : (s.complete).cv = s.cv := rfl
@[simp] theorem State.complete_cpart : (s.complete).cpart = s.cpart := rfl
@[simp] theorem State.complete_pending : (s.complete).pending = s.pending := rfl
@[simp] theorem State.complete_params : (s.complete).params = s.params := rfl
@[simp] theorem State.complete_inputs : (s.complete).inputs = s.inputs := rfl
@[simp] theorem State.complete_reads : (s.complete).reads = s.reads := rfl
@[simp] theorem State.complete_draws : (s.complete).draws = s.draws := rfl

/-! ## setInputs -/

@[simp] theorem State.setInputs_ieDone (l : List Input) : (s.setInputs l).ieDone = s.ieDone := rfl
@[simp] theorem State.setInputs_ieErr (l : List Input) : (s.setInputs l).ieErr = s.ieErr := rfl
@[simp] theorem State.setInputs_busy (l : List Input) : (s.setInputs l).busy = s.busy := rfl
@[simp] theorem State.setInputs_done (l : List Input) : (s.setInputs l).done = s.done := rfl
@[simp] theorem State.setInputs_err (l : List Input) : (s.setInputs l).err = s.err := rfl
@[simp] theorem State.setInputs_errcode (l : List Input) : (s.setInputs l).errcode = s.errcode := rfl
@[simp] theorem State.setInputs_errinfo (l : List Input) : (s.setInputs l).errinfo = s.errinfo := rfl
@[simp] theorem State.setInputs_alen (l : List Input) : (s.setInputs l).alen = s.alen := rfl
@[simp] theorem State.setInputs_mlen (l : List Input) : (s.setInputs l).mlen = s.mlen := rfl
@[simp] theorem State.setInputs_key (l : List Input) : (s.setInputs l).key = s.key := rfl
@[simp] theorem State.setInputs_nonce (l : List Input) : (s.setInputs l).nonce = s.nonce := rfl
@[simp] theorem State.setInputs_tag (l : List Input) : (s.setInputs l).tag = s.tag := rfl
@[simp] theorem State.setInputs_acc (l : List Input) : (s.setInputs l).acc = s.acc := rfl
@[simp] theorem State.setInputs_ctr (l : List Input) : (s.setInputs l).ctr = s.ctr := rfl
@[simp] theorem State.setInputs_din (l : List Input) : (s.setInputs l).din = s.din := rfl
@[simp] theorem State.setInputs_dout (l : List Input) : (s.setInputs l).dout = s.dout := rfl
@[simp] theorem State.setInputs_mrk (l : List Input) : (s.setInputs l).mrk = s.mrk := rfl
@[simp] theorem State.setInputs_kv (l : List Input) : (s.setInputs l).kv = s.kv := rfl
@[simp] theorem State.setInputs_mksz (l : List Input) : (s.setInputs l).mksz = s.mksz := rfl
@[simp] theorem State.setInputs_h (l : List Input) : (s.setInputs l).h = s.h := rfl
@[simp] theorem State.setInputs_hv (l : List Input) : (s.setInputs l).hv = s.hv := rfl
@[simp] theorem State.setInputs_ek (l : List Input) : (s.setInputs l).ek = s.ek := rfl
@[simp] theorem State.setInputs_erk (l : List Input) : (s.setInputs l).erk = s.erk := rfl
@[simp] theorem State.setInputs_eksz (l : List Input) : (s.setInputs l).eksz = s.eksz := rfl
@[simp] theorem State.setInputs_sv (l : List Input) : (s.setInputs l).sv = s.sv := rfl
@[simp] theorem State.setInputs_htab (l : List Input) : (s.setInputs l).htab = s.htab := rfl
@[simp] theorem State.setInputs_ph (l : List Input) : (s.setInputs l).ph = s.ph := rfl
@[simp] theorem State.setInputs_hmode (l : List Input) : (s.setInputs l).hmode = s.hmode := rfl
@[simp] theorem State.setInputs_apart (l : List Input) : (s.setInputs l).apart = s.apart := rfl
@[simp] theorem State.setInputs_mpart (l : List Input) : (s.setInputs l).mpart = s.mpart := rfl
@[simp] theorem State.setInputs_tv (l : List Input) : (s.setInputs l).tv = s.tv := rfl
@[simp] theorem State.setInputs_cv (l : List Input) : (s.setInputs l).cv = s.cv := rfl
@[simp] theorem State.setInputs_cpart (l : List Input) : (s.setInputs l).cpart = s.cpart := rfl
@[simp] theorem State.setInputs_pending (l : List Input) : (s.setInputs l).pending = s.pending := rfl
@[simp] theorem State.setInputs_params (l : List Input) : (s.setInputs l).params = s.params := rfl
@[simp] theorem State.setInputs_inputs (l : List Input) : (s.setInputs l).inputs = l := rfl
@[simp] theorem State.setInputs_reads (l : List Input) : (s.setInputs l).reads = s.reads := rfl
@[simp] theorem State.setInputs_draws (l : List Input) : (s.setInputs l).draws = s.draws := rfl

/-! ## cryptLanes -/

@[simp] theorem State.cryptLanes_ieDone (lanes : Nat) : (s.cryptLanes lanes).ieDone = s.ieDone := rfl
@[simp] theorem State.cryptLanes_ieErr (lanes : Nat) : (s.cryptLanes lanes).ieErr = s.ieErr := rfl
@[simp] theorem State.cryptLanes_busy (lanes : Nat) : (s.cryptLanes lanes).busy = s.busy := rfl
@[simp] theorem State.cryptLanes_done (lanes : Nat) : (s.cryptLanes lanes).done = s.done := rfl
@[simp] theorem State.cryptLanes_err (lanes : Nat) : (s.cryptLanes lanes).err = s.err := rfl
@[simp] theorem State.cryptLanes_errcode (lanes : Nat) : (s.cryptLanes lanes).errcode = s.errcode := rfl
@[simp] theorem State.cryptLanes_errinfo (lanes : Nat) : (s.cryptLanes lanes).errinfo = s.errinfo := rfl
@[simp] theorem State.cryptLanes_alen (lanes : Nat) : (s.cryptLanes lanes).alen = s.alen := rfl
@[simp] theorem State.cryptLanes_mlen (lanes : Nat) : (s.cryptLanes lanes).mlen = s.mlen := rfl
@[simp] theorem State.cryptLanes_key (lanes : Nat) : (s.cryptLanes lanes).key = s.key := rfl
@[simp] theorem State.cryptLanes_nonce (lanes : Nat) : (s.cryptLanes lanes).nonce = s.nonce := rfl
@[simp] theorem State.cryptLanes_tag (lanes : Nat) : (s.cryptLanes lanes).tag = s.tag := rfl
@[simp] theorem State.cryptLanes_acc (lanes : Nat) : (s.cryptLanes lanes).acc = s.acc := rfl
@[simp] theorem State.cryptLanes_ctr (lanes : Nat) : (s.cryptLanes lanes).ctr = incBy lanes s.ctr := rfl
@[simp] theorem State.cryptLanes_din (lanes : Nat) : (s.cryptLanes lanes).din = s.din := rfl
@[simp] theorem State.cryptLanes_dout (lanes : Nat) : (s.cryptLanes lanes).dout = Vector.ofFn fun j => if j.val < lanes then s.din[j] ^^^ s.keystream j.val else s.dout[j] := rfl
@[simp] theorem State.cryptLanes_mrk (lanes : Nat) : (s.cryptLanes lanes).mrk = s.mrk := rfl
@[simp] theorem State.cryptLanes_kv (lanes : Nat) : (s.cryptLanes lanes).kv = s.kv := rfl
@[simp] theorem State.cryptLanes_mksz (lanes : Nat) : (s.cryptLanes lanes).mksz = s.mksz := rfl
@[simp] theorem State.cryptLanes_h (lanes : Nat) : (s.cryptLanes lanes).h = s.h := rfl
@[simp] theorem State.cryptLanes_hv (lanes : Nat) : (s.cryptLanes lanes).hv = s.hv := rfl
@[simp] theorem State.cryptLanes_ek (lanes : Nat) : (s.cryptLanes lanes).ek = s.ek := rfl
@[simp] theorem State.cryptLanes_erk (lanes : Nat) : (s.cryptLanes lanes).erk = s.erk := rfl
@[simp] theorem State.cryptLanes_eksz (lanes : Nat) : (s.cryptLanes lanes).eksz = s.eksz := rfl
@[simp] theorem State.cryptLanes_sv (lanes : Nat) : (s.cryptLanes lanes).sv = s.sv := rfl
@[simp] theorem State.cryptLanes_htab (lanes : Nat) : (s.cryptLanes lanes).htab = s.htab := rfl
@[simp] theorem State.cryptLanes_ph (lanes : Nat) : (s.cryptLanes lanes).ph = s.ph := rfl
@[simp] theorem State.cryptLanes_hmode (lanes : Nat) : (s.cryptLanes lanes).hmode = s.hmode := rfl
@[simp] theorem State.cryptLanes_apart (lanes : Nat) : (s.cryptLanes lanes).apart = s.apart := rfl
@[simp] theorem State.cryptLanes_mpart (lanes : Nat) : (s.cryptLanes lanes).mpart = s.mpart := rfl
@[simp] theorem State.cryptLanes_tv (lanes : Nat) : (s.cryptLanes lanes).tv = s.tv := rfl
@[simp] theorem State.cryptLanes_cv (lanes : Nat) : (s.cryptLanes lanes).cv = s.cv := rfl
@[simp] theorem State.cryptLanes_cpart (lanes : Nat) : (s.cryptLanes lanes).cpart = s.cpart := rfl
@[simp] theorem State.cryptLanes_pending (lanes : Nat) : (s.cryptLanes lanes).pending = s.pending := rfl
@[simp] theorem State.cryptLanes_params (lanes : Nat) : (s.cryptLanes lanes).params = s.params := rfl
@[simp] theorem State.cryptLanes_inputs (lanes : Nat) : (s.cryptLanes lanes).inputs = s.inputs := rfl
@[simp] theorem State.cryptLanes_reads (lanes : Nat) : (s.cryptLanes lanes).reads = s.reads := rfl
@[simp] theorem State.cryptLanes_draws (lanes : Nat) : (s.cryptLanes lanes).draws = s.draws := rfl

/-! ## countBytes -/

@[simp] theorem State.countBytes_ieDone (n : Nat) (c : HashClass) : (s.countBytes n c).ieDone = s.ieDone := by cases c <;> rfl
@[simp] theorem State.countBytes_ieErr (n : Nat) (c : HashClass) : (s.countBytes n c).ieErr = s.ieErr := by cases c <;> rfl
@[simp] theorem State.countBytes_busy (n : Nat) (c : HashClass) : (s.countBytes n c).busy = s.busy := by cases c <;> rfl
@[simp] theorem State.countBytes_done (n : Nat) (c : HashClass) : (s.countBytes n c).done = s.done := by cases c <;> rfl
@[simp] theorem State.countBytes_err (n : Nat) (c : HashClass) : (s.countBytes n c).err = s.err := by cases c <;> rfl
@[simp] theorem State.countBytes_errcode (n : Nat) (c : HashClass) : (s.countBytes n c).errcode = s.errcode := by cases c <;> rfl
@[simp] theorem State.countBytes_errinfo (n : Nat) (c : HashClass) : (s.countBytes n c).errinfo = s.errinfo := by cases c <;> rfl
@[simp] theorem State.countBytes_key (n : Nat) (c : HashClass) : (s.countBytes n c).key = s.key := by cases c <;> rfl
@[simp] theorem State.countBytes_nonce (n : Nat) (c : HashClass) : (s.countBytes n c).nonce = s.nonce := by cases c <;> rfl
@[simp] theorem State.countBytes_tag (n : Nat) (c : HashClass) : (s.countBytes n c).tag = s.tag := by cases c <;> rfl
@[simp] theorem State.countBytes_acc (n : Nat) (c : HashClass) : (s.countBytes n c).acc = s.acc := by cases c <;> rfl
@[simp] theorem State.countBytes_ctr (n : Nat) (c : HashClass) : (s.countBytes n c).ctr = s.ctr := by cases c <;> rfl
@[simp] theorem State.countBytes_din (n : Nat) (c : HashClass) : (s.countBytes n c).din = s.din := by cases c <;> rfl
@[simp] theorem State.countBytes_dout (n : Nat) (c : HashClass) : (s.countBytes n c).dout = s.dout := by cases c <;> rfl
@[simp] theorem State.countBytes_mrk (n : Nat) (c : HashClass) : (s.countBytes n c).mrk = s.mrk := by cases c <;> rfl
@[simp] theorem State.countBytes_kv (n : Nat) (c : HashClass) : (s.countBytes n c).kv = s.kv := by cases c <;> rfl
@[simp] theorem State.countBytes_mksz (n : Nat) (c : HashClass) : (s.countBytes n c).mksz = s.mksz := by cases c <;> rfl
@[simp] theorem State.countBytes_h (n : Nat) (c : HashClass) : (s.countBytes n c).h = s.h := by cases c <;> rfl
@[simp] theorem State.countBytes_hv (n : Nat) (c : HashClass) : (s.countBytes n c).hv = s.hv := by cases c <;> rfl
@[simp] theorem State.countBytes_ek (n : Nat) (c : HashClass) : (s.countBytes n c).ek = s.ek := by cases c <;> rfl
@[simp] theorem State.countBytes_erk (n : Nat) (c : HashClass) : (s.countBytes n c).erk = s.erk := by cases c <;> rfl
@[simp] theorem State.countBytes_eksz (n : Nat) (c : HashClass) : (s.countBytes n c).eksz = s.eksz := by cases c <;> rfl
@[simp] theorem State.countBytes_sv (n : Nat) (c : HashClass) : (s.countBytes n c).sv = s.sv := by cases c <;> rfl
@[simp] theorem State.countBytes_htab (n : Nat) (c : HashClass) : (s.countBytes n c).htab = s.htab := by cases c <;> rfl
@[simp] theorem State.countBytes_hmode (n : Nat) (c : HashClass) : (s.countBytes n c).hmode = s.hmode := by cases c <;> rfl
@[simp] theorem State.countBytes_apart (n : Nat) (c : HashClass) : (s.countBytes n c).apart = s.apart := by cases c <;> rfl
@[simp] theorem State.countBytes_mpart (n : Nat) (c : HashClass) : (s.countBytes n c).mpart = s.mpart := by cases c <;> rfl
@[simp] theorem State.countBytes_tv (n : Nat) (c : HashClass) : (s.countBytes n c).tv = s.tv := by cases c <;> rfl
@[simp] theorem State.countBytes_cv (n : Nat) (c : HashClass) : (s.countBytes n c).cv = s.cv := by cases c <;> rfl
@[simp] theorem State.countBytes_cpart (n : Nat) (c : HashClass) : (s.countBytes n c).cpart = s.cpart := by cases c <;> rfl
@[simp] theorem State.countBytes_pending (n : Nat) (c : HashClass) : (s.countBytes n c).pending = s.pending := by cases c <;> rfl
@[simp] theorem State.countBytes_params (n : Nat) (c : HashClass) : (s.countBytes n c).params = s.params := by cases c <;> rfl
@[simp] theorem State.countBytes_inputs (n : Nat) (c : HashClass) : (s.countBytes n c).inputs = s.inputs := by cases c <;> rfl
@[simp] theorem State.countBytes_reads (n : Nat) (c : HashClass) : (s.countBytes n c).reads = s.reads := by cases c <;> rfl
@[simp] theorem State.countBytes_draws (n : Nat) (c : HashClass) : (s.countBytes n c).draws = s.draws := by cases c <;> rfl

/-! ## markPartial -/

@[simp] theorem State.markPartial_ieDone (n : Nat) (c : HashClass) : (s.markPartial n c).ieDone = s.ieDone := by cases c <;> rfl
@[simp] theorem State.markPartial_ieErr (n : Nat) (c : HashClass) : (s.markPartial n c).ieErr = s.ieErr := by cases c <;> rfl
@[simp] theorem State.markPartial_busy (n : Nat) (c : HashClass) : (s.markPartial n c).busy = s.busy := by cases c <;> rfl
@[simp] theorem State.markPartial_done (n : Nat) (c : HashClass) : (s.markPartial n c).done = s.done := by cases c <;> rfl
@[simp] theorem State.markPartial_err (n : Nat) (c : HashClass) : (s.markPartial n c).err = s.err := by cases c <;> rfl
@[simp] theorem State.markPartial_errcode (n : Nat) (c : HashClass) : (s.markPartial n c).errcode = s.errcode := by cases c <;> rfl
@[simp] theorem State.markPartial_errinfo (n : Nat) (c : HashClass) : (s.markPartial n c).errinfo = s.errinfo := by cases c <;> rfl
@[simp] theorem State.markPartial_alen (n : Nat) (c : HashClass) : (s.markPartial n c).alen = s.alen := by cases c <;> rfl
@[simp] theorem State.markPartial_mlen (n : Nat) (c : HashClass) : (s.markPartial n c).mlen = s.mlen := by cases c <;> rfl
@[simp] theorem State.markPartial_key (n : Nat) (c : HashClass) : (s.markPartial n c).key = s.key := by cases c <;> rfl
@[simp] theorem State.markPartial_nonce (n : Nat) (c : HashClass) : (s.markPartial n c).nonce = s.nonce := by cases c <;> rfl
@[simp] theorem State.markPartial_tag (n : Nat) (c : HashClass) : (s.markPartial n c).tag = s.tag := by cases c <;> rfl
@[simp] theorem State.markPartial_acc (n : Nat) (c : HashClass) : (s.markPartial n c).acc = s.acc := by cases c <;> rfl
@[simp] theorem State.markPartial_ctr (n : Nat) (c : HashClass) : (s.markPartial n c).ctr = s.ctr := by cases c <;> rfl
@[simp] theorem State.markPartial_din (n : Nat) (c : HashClass) : (s.markPartial n c).din = s.din := by cases c <;> rfl
@[simp] theorem State.markPartial_dout (n : Nat) (c : HashClass) : (s.markPartial n c).dout = s.dout := by cases c <;> rfl
@[simp] theorem State.markPartial_mrk (n : Nat) (c : HashClass) : (s.markPartial n c).mrk = s.mrk := by cases c <;> rfl
@[simp] theorem State.markPartial_kv (n : Nat) (c : HashClass) : (s.markPartial n c).kv = s.kv := by cases c <;> rfl
@[simp] theorem State.markPartial_mksz (n : Nat) (c : HashClass) : (s.markPartial n c).mksz = s.mksz := by cases c <;> rfl
@[simp] theorem State.markPartial_h (n : Nat) (c : HashClass) : (s.markPartial n c).h = s.h := by cases c <;> rfl
@[simp] theorem State.markPartial_hv (n : Nat) (c : HashClass) : (s.markPartial n c).hv = s.hv := by cases c <;> rfl
@[simp] theorem State.markPartial_ek (n : Nat) (c : HashClass) : (s.markPartial n c).ek = s.ek := by cases c <;> rfl
@[simp] theorem State.markPartial_erk (n : Nat) (c : HashClass) : (s.markPartial n c).erk = s.erk := by cases c <;> rfl
@[simp] theorem State.markPartial_eksz (n : Nat) (c : HashClass) : (s.markPartial n c).eksz = s.eksz := by cases c <;> rfl
@[simp] theorem State.markPartial_sv (n : Nat) (c : HashClass) : (s.markPartial n c).sv = s.sv := by cases c <;> rfl
@[simp] theorem State.markPartial_htab (n : Nat) (c : HashClass) : (s.markPartial n c).htab = s.htab := by cases c <;> rfl
@[simp] theorem State.markPartial_ph (n : Nat) (c : HashClass) : (s.markPartial n c).ph = s.ph := by cases c <;> rfl
@[simp] theorem State.markPartial_hmode (n : Nat) (c : HashClass) : (s.markPartial n c).hmode = s.hmode := by cases c <;> rfl
@[simp] theorem State.markPartial_tv (n : Nat) (c : HashClass) : (s.markPartial n c).tv = s.tv := by cases c <;> rfl
@[simp] theorem State.markPartial_cv (n : Nat) (c : HashClass) : (s.markPartial n c).cv = s.cv := by cases c <;> rfl
@[simp] theorem State.markPartial_cpart (n : Nat) (c : HashClass) : (s.markPartial n c).cpart = s.cpart := by cases c <;> rfl
@[simp] theorem State.markPartial_pending (n : Nat) (c : HashClass) : (s.markPartial n c).pending = s.pending := by cases c <;> rfl
@[simp] theorem State.markPartial_params (n : Nat) (c : HashClass) : (s.markPartial n c).params = s.params := by cases c <;> rfl
@[simp] theorem State.markPartial_inputs (n : Nat) (c : HashClass) : (s.markPartial n c).inputs = s.inputs := by cases c <;> rfl
@[simp] theorem State.markPartial_reads (n : Nat) (c : HashClass) : (s.markPartial n c).reads = s.reads := by cases c <;> rfl
@[simp] theorem State.markPartial_draws (n : Nat) (c : HashClass) : (s.markPartial n c).draws = s.draws := by cases c <;> rfl

@[simp] theorem State.countBytes_aad (n : Nat) :
    s.countBytes n .aad = { s with alen := s.alen + BitVec.ofNat 64 n } := rfl
@[simp] theorem State.countBytes_message (n : Nat) :
    s.countBytes n .message = { s with mlen := s.mlen + BitVec.ofNat 64 n, ph := .msg } := rfl
@[simp] theorem State.markPartial_aad (n : Nat) :
    s.markPartial n .aad = { s with apart := s.apart || decide (n < 16) } := rfl
@[simp] theorem State.markPartial_message (n : Nat) :
    s.markPartial n .message = { s with mpart := s.mpart || decide (n < 16) } := rfl

end Sys2Proof.Machine
end

