-- ==== Sys2Proof/Laws/Ops.lean ====
section
/-! SUPPORT. What each shared operation can do, said once. -/

namespace Sys2Proof.Machine

/-! ## Running a command -/

/-- Everything an engine step on a legal command can do: reject with the first failing check, or complete. -/
theorem runCommand_next_iff (checks : List (Bool × ErrCode)) (effect : State → State) (s t : State) :
    runCommand checks effect s = .next t ↔
      (∃ e, firstError checks = some e ∧ t = s.reject e) ∨ (firstError checks = none ∧ t = (effect s).complete) := by
  unfold runCommand
  cases firstError checks <;> simp [eq_comm]

/-- A command always has a next state. -/
theorem runCommand_answers_next (checks : List (Bool × ErrCode)) (effect : State → State) (s : State) :
    ∃ t, runCommand checks effect s = .next t := by
  unfold runCommand
  cases firstError checks <;> exact ⟨_, rfl⟩

theorem runCommand_of_none {checks : List (Bool × ErrCode)} (effect : State → State) (s : State)
    (ok : firstError checks = none) : runCommand checks effect s = .next (effect s).complete := by
  simp [runCommand, ok]

theorem runCommand_of_some {checks : List (Bool × ErrCode)} {e : ErrCode} (effect : State → State) (s : State)
    (bad : firstError checks = some e) : runCommand checks effect s = .next (s.reject e) := by
  simp [runCommand, bad]

@[simp] theorem firstError_nil : firstError [] = none := rfl

theorem firstError_cons (bad : Bool) (e : ErrCode) (rest : List (Bool × ErrCode)) :
    firstError ((bad, e) :: rest) = if bad then some e else firstError rest := rfl

/-- No check fails exactly when every condition is false. -/
theorem firstError_none_iff (checks : List (Bool × ErrCode)) :
    firstError checks = none ↔ ∀ c ∈ checks, c.1 = false := by
  induction checks with
  | nil => simp
  | cons c rest ih =>
    obtain ⟨bad, e⟩ := c
    cases bad <;> simp [firstError_cons, ih]

/-- The error found is one of the list's, with its condition true. -/
theorem firstError_mem {checks : List (Bool × ErrCode)} {e : ErrCode} (found : firstError checks = some e) :
    (true, e) ∈ checks := by
  induction checks with
  | nil => simp at found
  | cons c rest ih =>
    obtain ⟨bad, e'⟩ := c
    cases bad with
    | true =>
      rw [firstError_cons] at found
      simp at found
      simp [found]
    | false =>
      rw [firstError_cons] at found
      exact List.mem_cons_of_mem _ (ih (by simpa using found))

/-! ## Several commands -/

@[simp] theorem execAll_nil (s : State) : execAll [] s = .next s := rfl

theorem execAll_cons_next {i : Instr} {is : List Instr} {s t : State} (first : exec i s = .next t) :
    execAll (i :: is) s = execAll is t := by
  simp [execAll, first]

/-! ## Host accesses -/

/-- An access is performed exactly when it is an aligned word of the window. -/
theorem accessRefusal_none_iff (off size : Nat) :
    accessRefusal off size = none ↔ size = 4 ∧ off % 4 = 0 ∧ off < 0x200 := by
  unfold accessRefusal
  split
  · simp_all
  · split
    · simp_all
    · split <;> simp_all

theorem hostAccess_performed {off size : Nat} (t : State) (hs : size = 4) (ha : off % 4 = 0) (hw : off < 0x200) :
    hostAccess off size t = .next t := by
  simp [hostAccess, (accessRefusal_none_iff off size).2 ⟨hs, ha, hw⟩]

/-- A host access that has a next state was performed. -/
theorem hostAccess_next_iff (off size : Nat) (t u : State) :
    hostAccess off size t = .next u ↔ (size = 4 ∧ off % 4 = 0 ∧ off < 0x200) ∧ u = t := by
  rw [← accessRefusal_none_iff]
  unfold hostAccess
  cases accessRefusal off size <;> simp [eq_comm]

/-- Everything a write that is not a BUSY error can change. -/
theorem writeReg_cases (s : State) (v : Word) (r : Reg) :
    s.writeReg v r = s ∨ (r = .ctrl ∧ s.writeReg v r = s.writeCtrl v) ∨
      (r = .status ∧ s.writeReg v r = s.writeStatus v) ∨ (r = .cmd ∧ s.writeReg v r = s.accept v) ∨
      (∃ k, s.writeReg v r = { s with key := k }) ∨ (∃ n, s.writeReg v r = { s with nonce := n }) ∨
      ∃ d, s.writeReg v r = { s with din := d } := by
  cases r with
  | ctrl => exact .inr (.inl ⟨rfl, rfl⟩)
  | status => exact .inr (.inr (.inl ⟨rfl, rfl⟩))
  | cmd =>
    by_cases blocked : (s.err && opField v != Op.zero.byte) = true
    · exact .inl (by simp [State.writeReg, State.issue, blocked])
    · exact .inr (.inr (.inr (.inl ⟨rfl, by simp [State.writeReg, State.issue, blocked]⟩)))
  | key i => exact .inr (.inr (.inr (.inr (.inl ⟨_, rfl⟩))))
  | nonce i => exact .inr (.inr (.inr (.inr (.inr (.inl ⟨_, rfl⟩)))))
  | din j i => exact .inr (.inr (.inr (.inr (.inr (.inr ⟨_, rfl⟩)))))
  | _ => exact .inl rfl

/-! ## The moves of the machine -/

theorem nextMove_nil {s : State} (none_left : s.inputs = []) : nextMove s = engineTurn s := by
  simp [nextMove, none_left]

theorem nextMove_cons {s : State} {input : Input} {rest : List Input} (next : s.inputs = input :: rest) :
    nextMove s = takeInput input (s.setInputs rest) := by
  simp [nextMove, next]

theorem engineTurn_busy {s : State} (pending : s.busy = true) : engineTurn s = engineStep s := by
  simp [engineTurn, pending]

theorem engineTurn_idle {s : State} (none_pending : s.busy = false) : engineTurn s = .next s := by
  simp [engineTurn, none_pending]

end Sys2Proof.Machine
end

