-- ==== Sys2Proof/Laws/Exec.lean ====
section
/-! SUPPORT. Every command is one run of its checks and its effect: the single fact later proofs cite instead of unfolding
a meaning. -/

namespace Sys2Proof.Machine

/-- The checks of a command after decode, in order. -/
def commandChecks : Instr → State → List (Bool × ErrCode)
  | .nop, _ => []
  | .kexp _, _ => []
  | .kdf, s => s.kdfChecks
  | .aese ksel _, s => s.aeseChecks ksel
  | .hkey _, _ => []
  | .hinit _, s => s.hinitChecks
  | .hupd cls _ _ n, s => s.hupdChecks cls n
  | .hupd6 cls _, s => s.hupd6Checks cls
  | .hlen, s => s.hlenChecks
  | .tagf, s => s.tagfChecks
  | .ctri src, s => s.ctriChecks src
  | .ctrx1 _ _, s => s.ctrx1Checks
  | .ctrx4, s => s.ctrxBatchChecks
  | .ctrx8, s => s.ctrxBatchChecks
  | .zero _, _ => []

/-- What a command does when its checks pass. -/
def commandEffect : Instr → State → State
  | .nop, s => s
  | .kexp ksz, s => s.kexpEffect ksz
  | .kdf, s => s.kdfEffect
  | .aese ksel slot, s => s.aeseEffect ksel slot
  | .hkey slot, s => s.hkeyEffect slot
  | .hinit hm, s => s.hinitEffect hm
  | .hupd cls src slot n, s => s.hupdEffect cls src slot n
  | .hupd6 cls src, s => s.hupd6Effect cls src
  | .hlen, s => s.hlenEffect
  | .tagf, s => s.tagfEffect
  | .ctri src, s => s.ctriEffect src
  | .ctrx1 slot n, s => s.ctrx1Effect slot n
  | .ctrx4, s => s.cryptLanes 4
  | .ctrx8, s => s.cryptLanes 8
  | .zero scope, s => s.zeroise scope

theorem exec_eq_runCommand (i : Instr) (s : State) : exec i s = runCommand (commandChecks i s) (commandEffect i) s := by
  cases i <;> rfl

/-- Everything a command can do: its first failing check rejects it, or it completes with its whole effect. -/
theorem exec_next_iff (i : Instr) (s t : State) :
    exec i s = .next t ↔
      (∃ e, firstError (commandChecks i s) = some e ∧ t = s.reject e) ∨
        (firstError (commandChecks i s) = none ∧ t = (commandEffect i s).complete) := by
  rw [exec_eq_runCommand, runCommand_next_iff]

theorem exec_of_passing {i : Instr} {s : State} (ok : firstError (commandChecks i s) = none) :
    exec i s = .next (commandEffect i s).complete := by
  rw [exec_eq_runCommand, runCommand_of_none _ _ ok]

theorem exec_of_failing {i : Instr} {s : State} {e : ErrCode} (bad : firstError (commandChecks i s) = some e) :
    exec i s = .next (s.reject e) := by
  rw [exec_eq_runCommand, runCommand_of_some _ _ bad]

end Sys2Proof.Machine
end

