-- ==== Sys2Proof/Laws/PerInstr.lean ====
section
/-! SUPPORT. One lemma per constructor of Instr for each family of statements that hold for all instructions. -/

namespace Sys2Proof.Laws.EncodedOp

/-- The OP value of an instruction's row (30_encoding.md R92). -/
def rowByte : Instr → Byte
  | .nop => 0x00
  | .kexp _ => 0x01
  | .kdf => 0x02
  | .aese _ _ => 0x03
  | .hkey _ => 0x10
  | .hinit _ => 0x11
  | .hupd _ _ _ _ => 0x12
  | .hupd6 _ _ => 0x13
  | .hlen => 0x14
  | .tagf => 0x20
  | .ctri _ => 0x30
  | .ctrx1 _ _ => 0x31
  | .ctrx4 => 0x32
  | .ctrx8 => 0x33
  | .zero _ => 0x3F

/-- The encoded word holds the row's OP value in bits 7:0 and zeros in the reserved bits 31:22
(30_encoding.md R91, R92). -/
def Statement (i : Instr) : Prop := opField (encode i) = rowByte i ∧ (encode i).extractLsb' 22 10 = 0

theorem low_byte (high : BitVec 24) (low : Byte) : opField (high ++ low) = low := by
  apply BitVec.eq_of_getLsbD_eq
  intro b hb
  simp only [opField, BitVec.getLsbD_extractLsb', Nat.zero_add]
  rw [BitVec.getLsbD_append]
  simp [hb]

theorem high_bits (low : BitVec 22) : (0#10 ++ low).extractLsb' 22 10 = 0 := by
  apply BitVec.eq_of_getLsbD_eq
  intro b hb
  simp only [BitVec.getLsbD_extractLsb', BitVec.getLsbD_append]
  simp

theorem pack_assoc (all hm ksel : BitVec 1) (ksz : BitVec 2) (src cls : BitVec 1) (slot : BitVec 3) (nb : BitVec 4)
    (op : Op) :
    packFields all hm ksel ksz src cls slot nb op =
      0#10 ++ (all ++ hm ++ ksel ++ ksz ++ src ++ cls ++ slot ++ nb ++ op.byte) := by
  apply BitVec.eq_of_toNat_eq
  unfold packFields
  simp only [BitVec.toNat_append]
  simp

theorem pack (all hm ksel : BitVec 1) (ksz : BitVec 2) (src cls : BitVec 1) (slot : BitVec 3) (nb : BitVec 4) (op : Op) :
    opField (packFields all hm ksel ksz src cls slot nb op) = op.byte ∧
      (packFields all hm ksel ksz src cls slot nb op).extractLsb' 22 10 = 0 :=
  ⟨low_byte _ _, by rw [pack_assoc]; exact high_bits _⟩

theorem nop : Statement .nop := pack ..
theorem kexp (ksz : KeySize) : Statement (.kexp ksz) := pack ..
theorem kdf : Statement .kdf := pack ..
theorem aese (ksel : KeySelect) (slot : Fin 8) : Statement (.aese ksel slot) := pack ..
theorem hkey (slot : Fin 8) : Statement (.hkey slot) := pack ..
theorem hinit (hm : HashMode) : Statement (.hinit hm) := pack ..
theorem hupd (cls : HashClass) (src : DataSource) (slot : Fin 8) (n : Nat) : Statement (.hupd cls src slot n) := pack ..
theorem hupd6 (cls : HashClass) (src : DataSource) : Statement (.hupd6 cls src) := pack ..
theorem hlen : Statement .hlen := pack ..
theorem tagf : Statement .tagf := pack ..
theorem ctri (src : SeedSource) : Statement (.ctri src) := pack ..
theorem ctrx1 (slot : Fin 8) (n : Nat) : Statement (.ctrx1 slot n) := pack ..
theorem ctrx4 : Statement .ctrx4 := pack ..
theorem ctrx8 : Statement .ctrx8 := pack ..
theorem zero (scope : ZeroScope) : Statement (.zero scope) := pack ..

end Sys2Proof.Laws.EncodedOp
end

