-- ==== Sys2Proof/Laws/Step.lean ====
section
/-! SUPPORT. Everything one step of the machine can do, said once. -/

namespace Sys2Proof.Machine

@[simp] theorem State.setInputs_self (s : State) : s.setInputs s.inputs = s := rfl

/-- Everything the engine's turn can do. -/
theorem engineTurn_next {s t : State} (turn : engineTurn s = .next t) :
    (s.busy = false ∧ t = s) ∨
    (s.busy = true ∧ ∃ e, decode s.params.pipe s.pending = .error e ∧ t = s.reject (decodeErrCode e)) ∨
    (s.busy = true ∧ ∃ i, decode s.params.pipe s.pending = .ok i ∧ exec i s = .next t) := by
  unfold engineTurn engineStep at turn
  split at turn
  · rename_i pending
    split at turn
    · rename_i e bad
      simp only [Host.Outcome.next.injEq] at turn
      exact .inr (.inl ⟨pending, e, bad, turn.symm⟩)
    · rename_i i good
      exact .inr (.inr ⟨pending, i, good, turn⟩)
  · rename_i none_pending
    simp only [Host.Outcome.next.injEq] at turn
    exact .inl ⟨by simpa using none_pending, turn.symm⟩

/-- When the engine moves next, the step is its turn, the input that gave it used up. -/
theorem step_of_engineNext {s : State} (engine : s.engineNext = true) :
    step s = engineTurn (s.setInputs s.inputs.tail) := by
  unfold step nextMove
  split
  · rename_i none_left
    have : s.setInputs s.inputs.tail = s := by rw [none_left, List.tail_nil, ← none_left]; rfl
    rw [this]
  · rename_i input rest next
    cases input <;> simp [State.engineNext, next] at engine ⊢
    rfl

/-- Everything one step can do when it answers a next state. -/
theorem step_cases {s t : State} (moved : step s = .next t) :
    (s.engineNext = true ∧ s.busy = false ∧ t = s.setInputs s.inputs.tail) ∨
    (s.engineNext = true ∧ s.busy = true ∧
      ∃ e, decode s.params.pipe s.pending = .error e ∧ t = (s.setInputs s.inputs.tail).reject (decodeErrCode e)) ∨
    (s.engineNext = true ∧ s.busy = true ∧
      ∃ i, decode s.params.pipe s.pending = .ok i ∧ exec i (s.setInputs s.inputs.tail) = .next t) ∨
    (∃ off rest, s.inputs = .read off 4 :: rest ∧ off % 4 = 0 ∧ off < 0x200 ∧ t = (s.setInputs rest).hostRead off) ∨
    (∃ off v rest, s.inputs = .write off 4 v :: rest ∧ off % 4 = 0 ∧ off < 0x200 ∧
      t = (s.setInputs rest).hostWrite off v) ∨
    ∃ rest, s.inputs = .reset :: rest ∧ t = (s.setInputs rest).resetPulse := by
  by_cases engine : s.engineNext = true
  · rw [step_of_engineNext engine] at moved
    rcases engineTurn_next moved with ⟨idle, rfl⟩ | ⟨busy, e, bad, rfl⟩ | ⟨busy, i, good, run⟩
    · exact .inl ⟨engine, idle, rfl⟩
    · exact .inr (.inl ⟨engine, busy, e, bad, rfl⟩)
    · exact .inr (.inr (.inl ⟨engine, busy, i, good, run⟩))
  · unfold step nextMove at moved
    split at moved
    · rename_i none_left
      exact absurd (by simp [State.engineNext, none_left]) engine
    · rename_i input rest next
      cases input with
      | engine => exact absurd (by simp [State.engineNext, next]) engine
      | read off size =>
        obtain ⟨⟨rfl, aligned, inside⟩, rfl⟩ := (hostAccess_next_iff _ _ _ _).1 moved
        exact .inr (.inr (.inr (.inl ⟨off, rest, next, aligned, inside, rfl⟩)))
      | write off size v =>
        obtain ⟨⟨rfl, aligned, inside⟩, rfl⟩ := (hostAccess_next_iff _ _ _ _).1 moved
        exact .inr (.inr (.inr (.inr (.inl ⟨off, v, rest, next, aligned, inside, rfl⟩))))
      | reset =>
        simp only [takeInput, Host.Outcome.next.injEq] at moved
        exact .inr (.inr (.inr (.inr (.inr ⟨rest, next, moved.symm⟩))))

end Sys2Proof.Machine
end

