-- ==== Sys2Proof/Tests/Slice0.lean ====
section
/-! SUPPORT. The model's own tests: ill-formed terms, words written out from 30_encoding.md, the vectors of
95_test_vectors.md, and for every statement with hypotheses a concrete input that meets them. -/

namespace Sys2Proof.Tests

open Sys2Proof Sys2Proof.Machine Sys2Proof.Statements

/-! ## WellFormed refuses -/

theorem test_wf_hupd_zero_bytes : Instr.wellFormed true (.hupd .aad .din 0 0) = false := by decide
theorem test_wf_hupd_seventeen_bytes : Instr.wellFormed true (.hupd .message .dout 7 17) = false := by decide
theorem test_wf_ctrx1_zero_bytes : Instr.wellFormed true (.ctrx1 3 0) = false := by decide
theorem test_wf_ctrx1_seventeen_bytes : Instr.wellFormed true (.ctrx1 3 17) = false := by decide
theorem test_wf_hupd6_needs_pipe : Instr.wellFormed false (.hupd6 .aad .din) = false := by decide
theorem test_wf_ctrx4_needs_pipe : Instr.wellFormed false .ctrx4 = false := by decide
theorem test_wf_ctrx8_needs_pipe : Instr.wellFormed false .ctrx8 = false := by decide

/-! ## Decoding: every constructor by a word written field by field from the diagram of 30_encoding.md R91
(31:22 reserved, ALL, HM, KSEL, KSZ, SRC, CLS, SLOT, NB, OP) -/

theorem test_decode_nop : decode false 0b0000000000_0_0_0_00_0_0_000_0000_00000000 = .ok .nop := by decide
theorem test_decode_kexp : decode false 0b0000000000_0_0_0_01_0_0_000_0000_00000001 = .ok (.kexp .aes256) := by decide
theorem test_decode_kdf : decode false 0b0000000000_0_0_0_00_0_0_000_0000_00000010 = .ok .kdf := by decide
theorem test_decode_aese : decode false 0b0000000000_0_0_1_00_0_0_101_0000_00000011 = .ok (.aese .erk 5) := by decide
theorem test_decode_hkey : decode false 0b0000000000_0_0_0_00_0_0_011_0000_00010000 = .ok (.hkey 3) := by decide
theorem test_decode_hinit : decode false 0b0000000000_0_1_0_00_0_0_000_0000_00010001 = .ok (.hinit .ghash) := by decide
theorem test_decode_hupd :
    decode false 0b0000000000_0_0_0_00_1_0_110_0111_00010010 = .ok (.hupd .aad .dout 6 7) := by decide
theorem test_decode_hupd_full_block :
    decode false 0b0000000000_0_0_0_00_0_1_000_0000_00010010 = .ok (.hupd .message .din 0 16) := by decide
theorem test_decode_hupd6 :
    decode true 0b0000000000_0_0_0_00_0_1_000_0000_00010011 = .ok (.hupd6 .message .din) := by decide
theorem test_decode_hlen : decode false 0b0000000000_0_0_0_00_0_0_000_0000_00010100 = .ok .hlen := by decide
theorem test_decode_tagf : decode false 0b0000000000_0_0_0_00_0_0_000_0000_00100000 = .ok .tagf := by decide
theorem test_decode_ctri : decode false 0b0000000000_0_0_0_00_1_0_000_0000_00110000 = .ok (.ctri .din) := by decide
theorem test_decode_ctrx1 : decode false 0b0000000000_0_0_0_00_0_0_100_1011_00110001 = .ok (.ctrx1 4 11) := by decide
theorem test_decode_ctrx4 : decode true 0b0000000000_0_0_0_00_0_0_000_0000_00110010 = .ok .ctrx4 := by decide
theorem test_decode_ctrx8 : decode true 0b0000000000_0_0_0_00_0_0_000_0000_00110011 = .ok .ctrx8 := by decide
theorem test_decode_zero : decode false 0b0000000000_1_0_0_00_0_0_000_0000_00111111 = .ok (.zero .all) := by decide

/-- 95_test_vectors.md sections 3, 4.5, 5, 7 and 8: words that are no legal encoding. -/
theorem test_decode_rejects :
    decode true 0x00000004 = .error .illegal ∧ decode false 0x00000032 = .error .illegal ∧
    decode true 0x80000020 = .error .reserved ∧ decode true 0x01018312 = .error .reserved ∧
    decode true 0x00008031 = .error .reserved ∧ decode true 0x00000102 = .error .reserved ∧
    decode true 0x00040001 = .error .keySize ∧ decode true 0x00060001 = .error .keySize := by decide

theorem test_decode_table_word : decodeTableWord 32 0x00004B31 = some (.ctrx1 4 11) := by decide

/-! ## One command at a time -/

/-- A block written as its 16 bytes in hex, byte 0 first (00_scope.md R11). -/
def hex (bytes : Block) : Block := reverseBytes bytes

/-- The next state of a command, or the state itself. -/
def run (i : Instr) (s : State) : State :=
  match exec i s with
  | .next t => t
  | .fault _ => s
  | .refused _ => s

/-- The next state of a step, or the state itself. -/
def after (s : State) : State :=
  match step s with
  | .next t => t
  | .fault _ => s
  | .refused _ => s

/-- The key and nonce of 95_test_vectors.md section 1, loaded and expanded. -/
def katKeyed : State :=
  run (.kexp .aes128)
    { State.reset with key := 0#128 ++ hex 0xee8e1ed9ff2540ae8f2ba9f50bc2f27c,
                       nonce := (hex 0x752abad3e0afb5f434dc431000000000).setWidth 96 }

/-- The subkeys of 95_test_vectors.md section 1, as KDF leaves them. -/
def katSubkeys : State :=
  { State.reset with kv := true, sv := true, hv := true,
                     nonce := (hex 0x752abad3e0afb5f434dc431000000000).setWidth 96,
                     h := hex 0x310728d9911f1f3837b24316c3fab9a0,
                     erk := keyExpansion .aes128 (0#128 ++ hex 0xa4c5ae6249963279c100be4d7e2c6edd) }

/-- The H of 95_test_vectors.md section 4.1 with X_1 in slot 0, and an open POLYVAL session. -/
def hashing : State :=
  run (.hinit .polyval)
    { State.reset with h := hex 0x25629347589242761d31f826ba4b757b, hv := true,
                       din := #v[hex 0x4f4f95668c83dfb6401762bb2d01a262, 0, 0, 0, 0, 0, 0, 0] }

/-- A NOP is pending, and the BUSY error of 95_test_vectors.md section 8 is recorded. -/
def busyRecorded : State := (State.reset.accept 0x00000000).hostWrite 0x104 0x11223344

theorem test_busy_error :
    busyRecorded.statusWord = 0x00000B05 ∧ busyRecorded.errinfo = 0x00000104 ∧ busyRecorded.din[0] = 0 := by
  decide +kernel

theorem test_nop : (after busyRecorded).statusWord = 0x00000B06 := by decide +kernel

theorem test_kexp128 :
    let t := run (.kexp .aes128) { State.reset with key := 0#128 ++ hex 0x000102030405060708090a0b0c0d0e0f }
    t.mrk[10]? = some (hex 0x13111d7fe3944a17f307a78b4d2b30c5) ∧ t.statusWord = 0x00010002 := by decide +kernel

theorem test_kexp256 :
    let t := run (.kexp .aes256)
      { State.reset with key := hex 0x101112131415161718191a1b1c1d1e1f ++ hex 0x000102030405060708090a0b0c0d0e0f }
    t.mrk[14]? = some (hex 0x24fc79ccbf0979e9371ac23c6d68de36) ∧ t.statusWord = 0x08010002 := by decide +kernel

theorem test_aese_mrk :
    let t := run (.aese .mrk 7)
      { State.reset with kv := true, mrk := keyExpansion .aes128 (0#128 ++ hex 0x000102030405060708090a0b0c0d0e0f),
                         din := #v[0, 0, 0, 0, 0, 0, 0, hex 0x00112233445566778899aabbccddeeff] }
    t.dout[7] = hex 0x69c4e0d86a7b0430d8cdb78070b4c55a ∧ t.dout[0] = 0 := by decide +kernel

theorem test_aese_erk_nosubkey :
    (run (.aese .erk 0) { State.reset with kv := true }).statusWord = 0x00010504 := by decide +kernel

theorem test_kdf :
    let t := run .kdf katKeyed
    t.h = hex 0x310728d9911f1f3837b24316c3fab9a0 ∧ t.ek = 0#128 ++ hex 0xa4c5ae6249963279c100be4d7e2c6edd ∧
      t.statusWord = 0x00070002 := by decide +kernel

/-- The third row of 95_test_vectors.md section 5. -/
theorem test_kdf_aes256 :
    let t := run .kdf { State.reset with kv := true, mksz := .aes256, mrk := keyExpansion .aes256 1, nonce := 3 }
    t.h = hex 0xb5d3c529dfafac43136d2d11be284d7f ∧
      t.ek = hex 0x456e3c6c05ecc157cdbf0700fedad222 ++ hex 0xb914f4742be9e1d7a2f84addbf96dec3 := by decide +kernel

theorem test_hkey :
    let t := run (.hkey 3) { State.reset with din := #v[0, 0, 0, 5, 0, 0, 0, 0] }
    t.h = 5 ∧ t.statusWord = 0x00040002 := by decide +kernel

theorem test_hinit_ghash : (run (.hinit .ghash) { State.reset with hv := true }).statusWord = 0x00540002 := by
  decide +kernel

/-- The entries of HTAB in 95_test_vectors.md section 4.3. -/
theorem test_hash_powers :
    let h := hex 0x310728d9911f1f3837b24316c3fab9a0
    dot h h = hex 0xdee91ec57d5507ae464bec3ee9c4bed0 ∧
    dot (hex 0xdee91ec57d5507ae464bec3ee9c4bed0) h = hex 0x4f21ef34781596b2df1bcfadc4a36d2d ∧
    dot (hex 0x4f21ef34781596b2df1bcfadc4a36d2d) h = hex 0x1d3f9cd3f9b7e90bc6acefa74eedb3f1 ∧
    dot (hex 0x1d3f9cd3f9b7e90bc6acefa74eedb3f1) h = hex 0x8972ebe754cbe2720f6af0b1207b3b48 ∧
    dot (hex 0x8972ebe754cbe2720f6af0b1207b3b48) h = hex 0x1f8f4c6c971b87c28aa8da6d086d4837 := by decide +kernel

theorem test_hinit_table :
    (run (.hinit .polyval) { State.reset with hv := true, h := hex 0x310728d9911f1f3837b24316c3fab9a0 }).htab[1] =
      hex 0xdee91ec57d5507ae464bec3ee9c4bed0 := by decide +kernel

theorem test_hupd_short_aad :
    let t := run (.hupd .aad .din 0 7) hashing
    t.acc = hex 0xfdbca48c28bfb30343994786b56213ac ∧ t.alen = 7 ∧ t.statusWord = 0x00940002 := by decide +kernel

theorem test_hupd_len :
    let t := run (.hupd .aad .din 0 16) { hashing with params := ⟨true, 40⟩, alen := 32 }
    t.statusWord &&& 0xFFFFFFFD = 0x00140A04 ∧ t.alen = 32 := by decide +kernel

/-- The six Horner steps of the HUPD6 row of 95_test_vectors.md section 4.3, from the ACC after its AAD block to the ACC it
gives; the five values between are one multiplication by hand each (41_uhash.md R153). -/
theorem test_six_updates :
    let h := hex 0x310728d9911f1f3837b24316c3fab9a0
    hashUpd .polyval h (hex 0x551401c14f8703e5282d267d21c9088a) (hex 0x030a11181f262d343b424950575e656c) =
      hex 0xe7e3d1769fe20bebec6145886a95e691 ∧
    hashUpd .polyval h (hex 0xe7e3d1769fe20bebec6145886a95e691) (hex 0x737a81888f969da4abb2b9c0c7ced5dc) =
      hex 0x63ef7b5e2e3c6301d09fb7d2f12e5386 ∧
    hashUpd .polyval h (hex 0x63ef7b5e2e3c6301d09fb7d2f12e5386) (hex 0xe3eaf1f8ff060d141b222930373e454c) =
      hex 0x4b2d84847b941d764f514a91e473dc63 ∧
    hashUpd .polyval h (hex 0x4b2d84847b941d764f514a91e473dc63) (hex 0x535a61686f767d848b9299a0a7aeb5bc) =
      hex 0xd8686db61eb0d3ead77ae9489ef73492 ∧
    hashUpd .polyval h (hex 0xd8686db61eb0d3ead77ae9489ef73492) (hex 0xc3cad1d8dfe6edf4fb020910171e252c) =
      hex 0xde550f90e6489526fba5cbdcd5ab9af5 ∧
    hashUpd .polyval h (hex 0xde550f90e6489526fba5cbdcd5ab9af5) (hex 0x333a41484f565d646b727980878e959c) =
      hex 0x2f0a3646a03d918591225acddf0e7d72 := by decide +kernel

theorem test_hupd6 :
    let t := run (.hupd6 .message .din)
      { State.reset with
        h := hex 0x310728d9911f1f3837b24316c3fab9a0, hv := true, ph := .aad, alen := 16,
        acc := hex 0x551401c14f8703e5282d267d21c9088a,
        din := #v[hex 0x030a11181f262d343b424950575e656c, hex 0x737a81888f969da4abb2b9c0c7ced5dc,
          hex 0xe3eaf1f8ff060d141b222930373e454c, hex 0x535a61686f767d848b9299a0a7aeb5bc,
          hex 0xc3cad1d8dfe6edf4fb020910171e252c, hex 0x333a41484f565d646b727980878e959c, 0, 0] }
    t.acc = hex 0x2f0a3646a03d918591225acddf0e7d72 ∧ t.mlen = 96 ∧ t.ph = .msg := by
  obtain ⟨h1, h2, h3, h4, h5, h6⟩ := test_six_updates
  refine ⟨?_, rfl, rfl⟩
  rw [← h6, ← h5, ← h4, ← h3, ← h2, ← h1]
  rfl

theorem test_hupd6_without_pipe :
    (run (.hupd6 .aad .din) { State.reset with params := ⟨false, 2 ^ 36⟩, hv := true, ph := .aad }).statusWord =
      0x00140104 := by decide +kernel

theorem test_hlen_polyval :
    (run .hlen { katSubkeys with ph := .msg, alen := 7, mlen := 11,
                                 acc := hex 0x49665ef7f6ac22c40a263258dbaf4d4c }).acc =
      hex 0xad7fcf0b5169851662672f3c5f95138f := by decide +kernel

/-- GCM test case 2 in 95_test_vectors.md section 4.4. -/
theorem test_hlen_ghash :
    (run .hlen { State.reset with hv := true, hmode := .ghash, ph := .msg, mlen := 16,
                                  h := hex 0x66e94bd4ef8a2c3b884cfa59ca342b2e,
                                  acc := hex 0x5e2ec746917062882c85b0685353deb7 }).acc =
      hex 0xf38cbb1ad69223dcc3457ae5b6b0f885 := by decide +kernel

theorem test_tagf :
    (run .tagf { katSubkeys with ph := .final, acc := hex 0xad7fcf0b5169851662672f3c5f95138f }).tag =
      hex 0x4fbcdeb7e4793f4a1d7e4faa70100af1 := by decide +kernel

theorem test_tagf_mode :
    (run .tagf { State.reset with kv := true, sv := true, hv := true, hmode := .ghash, ph := .final }).statusWord =
      0x00770704 := by decide +kernel

theorem test_ctri_forces_top_bit :
    (run (.ctri .din) State.reset).ctr = hex 0x00000000000000000000000000000080 := by decide +kernel

theorem test_ctri_notag :
    (run (.ctri .tag) { State.reset with kv := true, sv := true, hv := true }).statusWord = 0x00070904 := by
  decide +kernel

theorem test_ctrx1_short :
    let t := run (.ctrx1 4 11) { katSubkeys with cv := true, ctr := hex 0x4fbcdeb7e4793f4a1d7e4faa70100af1,
                                                 din := #v[0, 0, 0, 0, hex 0x48656c6c6f20776f726c640000000000, 0, 0, 0] }
    t.dout[4] = hex 0x5d349ead175ef6b1def6fd0000000000 ∧ t.ctr = hex 0x50bcdeb7e4793f4a1d7e4faa70100af1 ∧
      t.statusWord = 0x06070002 := by decide +kernel

theorem test_ctrx1_closed_stream :
    (run (.ctrx1 4 11) { State.reset with kv := true, sv := true, hv := true, cv := true, cpart := true }).statusWord =
      0x06070804 := by decide +kernel

theorem test_ctrx4 :
    let t := run .ctrx4 { katSubkeys with cv := true, ctr := hex 0x4fbcdeb7e4793f4a1d7e4faa70100af1,
                                          din := #v[0, 0, 0, hex 0x303132333435363738393a3b3c3d3e3f, 0, 0, 0, 0] }
    t.dout[3] = hex 0xe8ce01005910d155eee1727a59f8044f ∧ t.dout[4] = 0 ∧
      t.ctr = hex 0x53bcdeb7e4793f4a1d7e4faa70100af1 := by decide +kernel

/-- The wrap of 95_test_vectors.md section 7.1. -/
theorem test_ctrx8_wraps :
    let t := run .ctrx8 { katSubkeys with cv := true, ctr := hex 0xfcffffffe4793f4a1d7e4faa70100af1 }
    t.dout[4] = hex 0xa7d698b1488a73bf4c60dfde8775c19c ∧ t.dout[7] = hex 0x29943cb6bf7b00a01498dc52f9bfae73 ∧
      t.ctr = hex 0x04000000e4793f4a1d7e4faa70100af1 := by decide +kernel

theorem test_zero_keeps_error_record :
    (run (.zero .ephemeral)
      { State.reset with kv := true, sv := true, hv := true, err := true, errcode := 0x09 }).statusWord =
      0x00010906 := by decide +kernel

theorem test_zero_all :
    let t := run (.zero .all) { katSubkeys with key := 7, ph := .aad }
    t.statusWord = 0x00000002 ∧ t.key = 0 ∧ t.mrk = zeroSchedule ∧ t.nonce = 0 := by decide +kernel

/-! ## Laws of 95_test_vectors.md section 4.2 and the vector of section 4.1 -/

theorem test_dot_vector :
    dot (hex 0x4f4f95668c83dfb6401762bb2d01a262) (hex 0x25629347589242761d31f826ba4b757b) =
      hex 0xcedac64537ff50989c16011551086d77 := by decide +kernel

theorem test_gmul_identity :
    gmul (hex 0x4f4f95668c83dfb6401762bb2d01a262) (hex 0x80000000000000000000000000000000) =
      hex 0x4f4f95668c83dfb6401762bb2d01a262 := by decide +kernel

/-! ## Witnesses: the hypotheses of each statement are met -/

/-- A state whose next move is the engine's turn on a pending command word. -/
def pendingOn (s : State) (w : Word) : State := s.deliver w

/-- A master key, subkeys, an open POLYVAL session and a counter; every command is legal in some phase from here. -/
def ready : State :=
  { State.reset with kv := true, sv := true, hv := true, ph := .aad, h := 5, ctr := 1#128 <<< 127, cv := true }

/-- The same on an engine without the multi-block option. -/
def readyNoPipe : State := { ready with params := ⟨false, 40⟩ }

theorem step_after {s : State} (moves : (match step s with | .next _ => true | .fault _ => false | .refused _ => false) = true) :
    step s = .next (after s) := by
  unfold after
  cases h : step s <;> simp [h] at moves ⊢

theorem exec_run (i : Instr) (s : State) : exec i s = .next (run i s) := by
  obtain ⟨t, h⟩ := runCommand_answers_next (commandChecks i s) (commandEffect i) s
  rw [← exec_eq_runCommand] at h
  rw [run, h]

theorem witness_DecodeOfEncode :
    Instr.wellFormed false (.hupd .message .dout 7 16) = true ∧ Instr.wellFormed false (.ctrx1 0 1) = true ∧
    Instr.wellFormed true .ctrx8 = true ∧ Instr.wellFormed true (.hupd6 .aad .dout) = true := by decide

theorem witness_EncodeOfDecode :
    decode true 0x0001FF12 = .ok (.hupd .message .dout 7 15) ∧ decode false 0x00087003 = .ok (.aese .erk 7) := by decide

theorem witness_DecodeIsMatchMask :
    (Op.hupd6, (0x00000013 : Word), (0xFFFE7FFF : Word)) ∈ matchMask ∧
    (Op.zero, (0x0000003F : Word), (0xFFDFFFFF : Word)) ∈ matchMask := by decide

/-- A word for each of the four steps: unassigned, PIPE-only without PIPE, a reserved bit, KSZ = 2 and 3, legal. -/
theorem witness_EngineStepClassifiesWord :
    opField 0x00000004 ∉ assignedOps ∧
    (opField 0x00000033 ∈ ([0x13, 0x32, 0x33] : List Byte) ∧ readyNoPipe.params.pipe = false) ∧
    (opField 0x80000020 ∈ assignedOps ∧ Op.tagf.byte = opField 0x80000020 ∧
      (0x80000020 : Word).getLsbD 31 = true ∧ Op.tagf.usedBits.getLsbD 31 = false) ∧
    (opField 0x00000120 ∈ assignedOps ∧ Op.tagf.byte = opField 0x00000120 ∧
      (0x00000120 : Word).getLsbD 8 = true ∧ Op.tagf.usedBits.getLsbD 8 = false) ∧
    (opField 0x00040001 = 0x01 ∧ kszField 0x00040001 = 2 ∧ (0x00040001 : Word) &&& 0xFFFFFF00 &&& ~~~Op.kexp.usedBits = 0) ∧
    (kszField 0x00060001 = 3 ∧ kszField 0x00020001 = 1 ∧ (0x00020001 : Word) &&& 0xFFFFFF00 &&& ~~~Op.kexp.usedBits = 0) := by
  decide

theorem witness_StepRunsDecodedInstruction :
    ((pendingOn ready 0x00000014).engineNext = true ∧ (pendingOn ready 0x00000014).busy = true ∧
      decode true (pendingOn ready 0x00000014).pending = .ok .hlen) ∧
    ((pendingOn ready 0x00000004).engineNext = true ∧ (pendingOn ready 0x00000004).busy = true ∧
      decode true (pendingOn ready 0x00000004).pending = .error .illegal) ∧
    (ready.engineNext = true ∧ ready.busy = false) ∧
    (∀ off ∈ [0x000, 0x1FC], off % 4 = 0 ∧ off < 0x200) ∧
    ({ ready with inputs := [.read 0x1FC 4] } : State).inputs = .read 0x1FC 4 :: [] ∧
    ({ ready with inputs := [.write 0x010 4 0x14] } : State).inputs = .write 0x010 4 0x14 :: [] := by decide

theorem witness_StepRefusesOnlyBadAccess :
    Input.legal (.read 0x1FC 4) = true ∧ Input.legal (.read 0x200 4) = false ∧ Input.legal (.write 0x002 4 0) = false ∧
    Input.legal (.read 0x000 1) = false ∧
    step (pendingOn readyNoPipe 0x00000014) = .next (after (pendingOn readyNoPipe 0x00000014)) :=
  ⟨by decide, by decide, by decide, by decide, step_after rfl⟩

theorem witness_InvAfterReset : Params.wf ⟨false, 1⟩ ∧ Params.wf ⟨true, 2 ^ 61⟩ := by
  unfold Params.wf
  decide

/-- The invariant holds of a state that is not the reset state: HKEY is pending. -/
theorem pending_hkey_inv : (pendingOn State.reset 0x00003010).Inv where
  params_wf := by unfold Params.wf; decide
  alen_le := by decide
  mlen_le := by decide
  session_has_key := by decide
  idle_is_clear := by decide
  table_of_session := by decide
  table_absent := by decide
  subkey_of_master := by decide
  subkey_complete := by intro h; exact absurd h (by decide)
  no_subkey_is_clear := by decide
  no_hash_key_is_clear := by decide
  master_complete := by intro h; exact absurd h (by decide)
  no_master_is_clear := by decide
  tag_of_subkey := by decide
  no_tag_is_clear := by decide
  partial_has_counter := by decide
  no_counter_is_clear := by decide
  counter_marked := by decide
  no_error_is_clear := by decide
  error_is_known := by intro h; exact absurd h (by decide)
  busy_not_done := by decide

theorem witness_StepKeepsInv :
    (pendingOn State.reset 0x00003010).Inv ∧
    step (pendingOn State.reset 0x00003010) = .next (after (pendingOn State.reset 0x00003010)) ∧
    (after (pendingOn State.reset 0x00003010)).hv = true :=
  ⟨pending_hkey_inv, step_after rfl, rfl⟩

theorem witness_CommandIssue :
    (State.reset.accept 0).busy = true ∧
    (ready.reject .seq).busy = false ∧ (ready.reject .seq).err = true ∧
    (0x00000014 : Word).extractLsb' 0 8 ≠ 0x3F ∧ (0x0020003F : Word).extractLsb' 0 8 = 0x3F ∧ ready.err = false := by decide

theorem witness_BusyWriteIsRecorded :
    busyRecorded.busy = true ∧ busyRecorded.done = false ∧
    (∀ off ∈ [0x010, 0x040, 0x05C, 0x060, 0x068, 0x100, 0x17C], guardedOffset off) ∧
    (∀ off ∈ [0x000, 0x008, 0x00C, 0x014, 0x03C, 0x06C, 0x0FC, 0x180, 0x1FC], ¬guardedOffset off) ∧
    (busyRecorded.hostWrite 0x00C 2).err = true ∧ decode true busyRecorded.pending = .ok .nop ∧
    exec .nop (busyRecorded.hostWrite 0x17C 1) = .next (run .nop (busyRecorded.hostWrite 0x17C 1)) ∧
    (run .nop (busyRecorded.hostWrite 0x17C 1)).done = true := by
  refine ⟨rfl, rfl, ?_, ?_, rfl, by decide, exec_run _ _, rfl⟩ <;> unfold guardedOffset <;> decide

/-- A recorded error, and the host's next move. -/
def erring (input : Input) : State := { ready with err := true, errcode := 0x08, errinfo := 0x14, inputs := [input] }

theorem witness_OnlyStatusWriteClearsError :
    (step (erring (.write 0x00C 4 4)) = .next (after (erring (.write 0x00C 4 4))) ∧
      (erring (.write 0x00C 4 4)).err = true ∧ (after (erring (.write 0x00C 4 4))).err = false) ∧
    (step (erring .reset) = .next (after (erring .reset)) ∧ (after (erring .reset)).err = false) :=
  ⟨⟨step_after rfl, rfl, rfl⟩, step_after rfl, rfl⟩

/-- A completed command, and the host's next move. -/
def finished (input : Input) : State := { ready with done := true, inputs := [input] }

theorem witness_DoneRisesAndFalls :
    (step (pendingOn ready 0x00000000) = .next (after (pendingOn ready 0x00000000)) ∧
      (pendingOn ready 0x00000000).done = false ∧ (after (pendingOn ready 0x00000000)).done = true) ∧
    (step (finished (.write 0x010 4 0x14)) = .next (after (finished (.write 0x010 4 0x14))) ∧
      (finished (.write 0x010 4 0x14)).done = true ∧ (after (finished (.write 0x010 4 0x14))).done = false) ∧
    (step (finished (.write 0x00C 4 2)) = .next (after (finished (.write 0x00C 4 2))) ∧
      (after (finished (.write 0x00C 4 2))).done = false) ∧
    (step (finished .reset) = .next (after (finished .reset)) ∧ (after (finished .reset)).done = false) :=
  ⟨⟨step_after rfl, rfl, rfl⟩, ⟨step_after rfl, rfl, rfl⟩, ⟨step_after rfl, rfl⟩, step_after rfl, rfl⟩

theorem witness_StatusFields : ready.busy = false ∧ ready.ph = .aad := ⟨rfl, rfl⟩

/-- Each clause at the ends of its range. -/
theorem witness_ReadsWhileBusy :
    ready.busy = false ∧ busyRecorded.busy = true ∧
    (0x060 + 4 * 2 = 0x068 ∧ 0x070 + 4 * 3 = 0x07C ∧ 0x080 + 4 * 3 = 0x08C ∧ 0x090 + 4 * 3 = 0x09C ∧
      0x100 + 16 * 7 + 4 * 3 = 0x17C ∧ 0x180 + 16 * 7 + 4 * 3 = 0x1FC ∧ 3 < 4 ∧ 2 < 3) ∧
    (∀ off ∈ [0x060, 0x068], off % 4 = 0 ∧ 0x060 ≤ off ∧ off < 0x06C) ∧
    (∀ off ∈ [0x100, 0x17C], off % 4 = 0 ∧ 0x100 ≤ off ∧ off < 0x180) ∧
    (∀ off ∈ [0x018, 0x024], off % 4 = 0 ∧ 0x018 ≤ off ∧ off < 0x028) ∧
    (∀ off ∈ [0x070, 0x09C], off % 4 = 0 ∧ 0x070 ≤ off ∧ off < 0x0A0) ∧
    (∀ off ∈ [0x180, 0x1FC], off % 4 = 0 ∧ 0x180 ≤ off ∧ off < 0x200) := by decide

theorem witness_ReadsAndIgnoredWritesChangeNothing :
    ∀ off ∈ [0x000, 0x004, 0x014, 0x03C, 0x06C, 0x0FC, 0x180, 0x1FC], off < 0x200 ∧ off % 4 = 0 ∧ ¬writableOffset off := by
  unfold writableOffset guardedOffset
  decide

theorem witness_DinWordLanes : ready.busy = false ∧ 3 < 4 ∧ 0x100 + 16 * (7 : Fin 8).val + 4 * 3 = 0x17C := by decide

theorem witness_KeyAndNonceWordLanes :
    ready.busy = false ∧ 0x040 + 4 * 7 = 0x05C ∧ 0x060 + 4 * 2 = 0x068 ∧ 3 < 4 := by decide

theorem witness_RegistersAfterReset : 0x1FC < 0x200 ∧ 0x1FC % 4 = 0 := by decide

theorem witness_ResetInputResets : (erring .reset).inputs = .reset :: [] := rfl

theorem witness_CommandsAfterReset :
    decode false 0x00000010 = .ok (.hkey 0) ∧ decode false 0x00000002 = .ok .kdf ∧ decode true 0x00000033 = .ok .ctrx8 ∧
    decode false 0x00000011 = .ok (.hinit .polyval) ∧ decode true 0x00000013 = .ok (.hupd6 .aad .din) ∧
    decode false 0x00000030 = .ok (.ctri .tag) ∧ decode false 0x00010030 = .ok (.ctri .din) := by decide

theorem witness_HostAccessHidesSecrets :
    ({ finished (.read 0x080 4) with key := 7 } : State).blankHidden = (finished (.read 0x080 4)).blankHidden ∧
    ({ finished (.read 0x080 4) with key := 7 } : State) ≠ finished (.read 0x080 4) ∧
    (finished (.read 0x080 4)).inputs = .read 0x080 4 :: [] ∧ Input.read 0x080 4 ≠ .engine :=
  ⟨rfl, fun h => absurd (congrArg State.key h) (by decide), rfl, by decide⟩

theorem witness_MasterKeyChangesOnlyByKexpZeroReset :
    (step (pendingOn State.reset 0x00020001) = .next (after (pendingOn State.reset 0x00020001)) ∧
      (after (pendingOn State.reset 0x00020001)).kv ≠ (pendingOn State.reset 0x00020001).kv) ∧
    (step (pendingOn ready 0x0020003F) = .next (after (pendingOn ready 0x0020003F)) ∧
      (after (pendingOn ready 0x0020003F)).kv ≠ (pendingOn ready 0x0020003F).kv) ∧
    (step (erring .reset) = .next (after (erring .reset)) ∧ (after (erring .reset)).kv ≠ (erring .reset).kv) :=
  ⟨⟨step_after rfl, by decide⟩, ⟨step_after rfl, by decide⟩, step_after rfl, by decide⟩

theorem witness_CommandsKeepHostData : exec (.zero .ephemeral) ready = .next (run (.zero .ephemeral) ready) := exec_run _ _

theorem witness_HashKeyChangeEndsSession :
    exec (.hkey 0) ready = .next (run (.hkey 0) ready) ∧ (run (.hkey 0) ready).h ≠ ready.h :=
  ⟨exec_run _ _, by decide⟩

theorem witness_AadFrozenAfterMessage :
    (exec .nop { ready with ph := .msg } = .next (run .nop { ready with ph := .msg }) ∧
      (run .nop { ready with ph := .msg }).ph ≠ .idle) ∧
    (exec .nop { ready with ph := .final } = .next (run .nop { ready with ph := .final }) ∧
      (run .nop { ready with ph := .final }).ph ≠ .idle) :=
  ⟨⟨exec_run _ _, by decide⟩, exec_run _ _, by decide⟩

theorem witness_PhaseMachine :
    ready.params.pipe = true ∧ ready.sv = true ∧ ready.hmode = .polyval ∧
    (({ ready with ph := .msg } : State).ph ≠ .aad ∧ ({ ready with apart := true } : State).apart = true) ∧
    (({ ready with ph := .final } : State).ph = .final ∧ ({ ready with mpart := true } : State).mpart = true) ∧
    ready.ph ≠ .final ∧ ∀ i, exec i ready = .next (run i ready) :=
  ⟨rfl, rfl, rfl, ⟨by decide, rfl⟩, ⟨rfl, rfl⟩, by decide, fun i => exec_run i _⟩

theorem witness_PathEquivalence :
    let s := pendingOn { ready with params := ⟨true, 40⟩ } 0x00000014
    let t := pendingOn readyNoPipe 0x00000014
    s.blankPipe = t.blankPipe ∧ s ≠ t ∧ s.portableMove = true ∧ step s = .next (after s) :=
  ⟨rfl, fun h => absurd (congrArg (fun s : State => s.params.pipe) h) (by decide), rfl, step_after rfl⟩

theorem witness_SboxIsAffineInverse : (15 < 16) := by decide

theorem witness_IncWrapsLowWord : ready.ctr = 1#128 <<< 127 ∧ 4 ≤ 15 ∧ 15 < 16 := by decide

theorem witness_ShiftRowsMixColumnsBytes : (3 < 4) ∧ (0 < 4) := by decide

theorem witness_KeyExpansionRecurrence :
    (3 < 4 ∧ 4 ≤ 43 ∧ 43 < 4 * (10 + 1)) ∧ (7 < 8 ∧ 8 ≤ 59 ∧ 59 < 4 * (14 + 1)) ∧ 12 % 8 = 4 ∧ 16 % 8 = 0 ∧ 3 < 4 ∧ 1 ≤ 1 := by decide

theorem witness_AeseResult : ready.kv = true ∧ ready.sv = true ∧ State.reset.kv = false ∧ State.reset.sv = false := by decide

theorem witness_KdfResult :
    State.reset.kv = false ∧ ready.kv = true ∧ ready.mksz = .aes128 ∧
    ({ ready with mksz := .aes256 } : State).mksz = .aes256 := by decide

theorem witness_AggregatedUpdate :
    let s : State := { ready with htab := hashTable .polyval 5 }
    s.htab = hashTable s.hmode s.h ∧ exec (.hupd6 .message .dout) s = .next (run (.hupd6 .message .dout) s) ∧
    (run (.hupd6 .message .dout) s).done = true ∧ s.done = false :=
  ⟨rfl, exec_run _ _, rfl, rfl⟩

theorem witness_HinitResult :
    State.reset.hv = false ∧ ready.hv = true ∧ ready.params.pipe = true ∧ readyNoPipe.params.pipe = false ∧ 4 < 5 := by
  decide

/-- Both classes, at n = 1 and n = 16, up to the last byte MAX_LEN_BYTES allows. -/
theorem witness_HupdResult :
    (ready.ph = .aad ∧ ready.apart = false ∧ ready.mpart = false ∧ ready.alen.toNat + 16 ≤ ready.params.maxLenBytes) ∧
    (({ readyNoPipe with mlen := 39, ph := .msg } : State).mlen.toNat + 1 ≤ 40) ∧
    (({ readyNoPipe with alen := 24 } : State).alen.toNat + 16 ≤ 40) := by decide

theorem witness_HupdErrors :
    (({ ready with ph := .msg } : State).ph ≠ .aad ∧ ({ ready with apart := true } : State).apart = true) ∧
    (readyNoPipe.ph = .aad ∧ readyNoPipe.apart = false ∧ readyNoPipe.mpart = false ∧
      readyNoPipe.params.maxLenBytes < ({ readyNoPipe with alen := 25 } : State).alen.toNat + 16 ∧
      readyNoPipe.params.maxLenBytes < ({ readyNoPipe with mlen := 40 } : State).mlen.toNat + 1) ∧
    State.reset.ph = .idle ∧ ({ ready with ph := .final } : State).ph = .final := by decide

theorem witness_Hupd6IsSixHupds :
    ready.params.pipe = true ∧ ready.ph = .aad ∧ ready.apart = false ∧ ready.mpart = false ∧
    ready.alen.toNat + 96 ≤ ready.params.maxLenBytes ∧ ready.mlen.toNat + 96 ≤ ready.params.maxLenBytes := by decide

theorem witness_Hupd6Result :
    readyNoPipe.params.pipe = false ∧ ready.params.pipe = true ∧ ready.ph = .aad ∧ ready.apart = false ∧
    ready.mpart = false ∧ ({ ready with ph := .msg } : State).ph = .msg ∧
    ({ ready with apart := true } : State).apart = true ∧ ({ ready with mpart := true } : State).mpart = true ∧
    State.reset.params.pipe = true ∧ State.reset.ph = .idle ∧ ({ ready with ph := .final } : State).ph = .final ∧
    ¬({ ready with params := ⟨true, 95⟩ } : State).alen.toNat + 96 ≤ 95 ∧
    ({ ready with params := ⟨true, 96⟩ } : State).alen.toNat + 96 ≤ 96 := by decide

theorem witness_HlenResult :
    State.reset.ph = .idle ∧ ready.ph = .aad ∧ ready.hmode = .polyval ∧ ({ ready with ph := .msg } : State).ph = .msg ∧
    ({ ready with hmode := .ghash, ph := .final } : State).hmode = .ghash ∧ 7 < 8 := by decide

theorem witness_TagfResult :
    State.reset.sv = false ∧ ready.sv = true ∧ ({ ready with hmode := .ghash } : State).hmode = .ghash ∧
    ready.hmode = .polyval ∧ ready.ph ≠ .final ∧ ({ ready with ph := .final } : State).ph = .final := by decide

theorem witness_CtriResult :
    SeedSource.tag = .tag ∧ ready.tv = false ∧ ({ ready with tv := true } : State).tv = true := by decide

theorem witness_Ctrx1Result :
    State.reset.sv = false ∧ ready.sv = true ∧ ready.cv = true ∧ ready.cpart = false ∧
    ({ ready with cv := false } : State).cv = false ∧ ({ ready with cpart := true } : State).cpart = true ∧
    (1 ≤ 1 ∧ 1 ≤ 16) ∧ 16 ≤ 16 := by decide

theorem witness_CtrxBatchResult :
    readyNoPipe.params.pipe = false ∧ ready.params.pipe = true ∧ ready.sv = true ∧ ready.cv = true ∧
    ready.cpart = false ∧ ({ ready with sv := false } : State).sv = false ∧
    ({ ready with cpart := true } : State).cpart = true := by decide

theorem witness_BatchEquivalence :
    ready.params.pipe = true ∧ ready.sv = true ∧ ready.cv = true ∧ ready.cpart = false := by decide

theorem witness_DecryptionIsEncryption :
    (∀ slot, exec (.ctrx1 slot 11) ready = .next (run (.ctrx1 slot 11) ready) ∧
      exec (.ctrx1 slot 11) (ready.loadSlot slot (run (.ctrx1 slot 11) ready).dout[slot]) =
        .next (run (.ctrx1 slot 11) (ready.loadSlot slot (run (.ctrx1 slot 11) ready).dout[slot]))) ∧
    (exec .ctrx8 ready = .next (run .ctrx8 ready) ∧
      exec .ctrx8 { ready with din := (run .ctrx8 ready).dout } =
        .next (run .ctrx8 { ready with din := (run .ctrx8 ready).dout })) ∧
    ready.params.pipe = true ∧ ready.sv = true ∧ ready.cv = true ∧ ready.cpart = false :=
  ⟨fun _ => ⟨exec_run _ _, exec_run _ _⟩, ⟨exec_run _ _, exec_run _ _⟩, rfl, rfl, rfl, rfl⟩

theorem witness_SealThenOpenOneBlock :
    katKeyed.kv = true ∧ (1 ≤ 1 ∧ 16 ≤ 16) ∧ 16 ≤ katKeyed.params.maxLenBytes := by decide +kernel

end Sys2Proof.Tests
end

section
/-! PROOFS. The register window: what a host read returns and a host write does, per register, and the statements on
CMD, ID, CAP, CTRL and the reset values. -/

namespace Sys2Proof.Machine

/-! ## Reads -/

theorem readValue_of_not_busy {s : State} (idle : s.busy = false) (r : Reg) : s.readValue r = s.regValue r := by
  simp [State.readValue, idle]

@[simp] theorem drawBits_zero (v free : Word) : drawBits 0#32 v free = v := by
  rw [drawBits, BitVec.not_zero, BitVec.and_allOnes, BitVec.and_zero, BitVec.or_zero]

/-- A register without drawn bits reads its current value whatever BUSY is (70_reset_and_hazards.md R295). -/
theorem readValue_of_undrawn (s : State) {r : Reg} (kept : r.drawnBits = 0) : s.readValue r = s.regValue r := by
  simp [State.readValue, kept]

theorem capWord_eq (s : State) : s.capWord = if s.params.pipe then 0x0000000F else 0x0000000E := by
  unfold State.capWord
  cases s.params.pipe <;> rfl

@[simp] theorem ctrlWord_writeCtrl (s : State) (v : Word) : (s.writeCtrl v).ctrlWord = v &&& 3 := by
  have mask_high (b : Nat) : (3#32).getLsbD (b + 2) = false := by
    rw [show 3#32 = (3#2).setWidth 32 by rfl, BitVec.getLsbD_setWidth, BitVec.getLsbD_of_ge _ _ (by omega),
      Bool.and_false]
  apply BitVec.eq_of_getLsbD_eq
  intro b hb
  simp only [State.ctrlWord, State.writeCtrl, BitVec.getLsbD_append, BitVec.getLsbD_and, BitVec.getLsbD_ofBool]
  match b with
  | 0 => simp
  | 1 => simp
  | b + 2 => simp [mask_high]

@[simp] theorem wordAt_zero (w i : Nat) : wordAt (0#w) i = 0 := by simp [wordAt]

/-! ## Writes -/

/-- The BUSY error (60_exceptions.md R266). -/
theorem hostWrite_of_busy_guarded {s : State} {off : Nat} (v : Word) (pending : s.busy = true)
    (guarded : (Reg.atOffset off).busyGuarded = true) :
    s.hostWrite off v = s.recordError .busy (BitVec.ofNat 32 off) := by
  simp [State.hostWrite, pending, guarded]

theorem hostWrite_of_not_busy {s : State} (off : Nat) (v : Word) (idle : s.busy = false) :
    s.hostWrite off v = s.writeReg v (Reg.atOffset off) := by
  simp [State.hostWrite, idle]

/-- A register whose write is never the BUSY error is written whatever BUSY is. -/
theorem hostWrite_of_unguarded (s : State) {off : Nat} (v : Word) (unguarded : (Reg.atOffset off).busyGuarded = false) :
    s.hostWrite off v = s.writeReg v (Reg.atOffset off) := by
  simp [State.hostWrite, unguarded]

/-- A command other than ZERO is discarded while ERR = 1 (10_state.md R28). -/
theorem issue_discarded {s : State} {w : Word} (error : s.err = true) (other : opField w ≠ Op.zero.byte) :
    s.issue w = s := by
  simp [State.issue, error, other]

theorem issue_accepted {s : State} {w : Word} (ok : s.err = false ∨ opField w = Op.zero.byte) :
    s.issue w = s.accept w := by
  rcases ok with clear | zero
  · simp [State.issue, clear]
  · simp [State.issue, zero]

/-! ## The map, and the window after reset -/

theorem atOffset_eq_id_iff {off : Nat} (aligned : off % 4 = 0) : Reg.atOffset off = .id ↔ off = 0x000 := by
  simp only [Reg.atOffset, ite_eq_iff, reduceCtorEq, and_false, and_true, or_false]
  omega

theorem atOffset_eq_cap_iff {off : Nat} (aligned : off % 4 = 0) : Reg.atOffset off = .cap ↔ off = 0x004 := by
  simp only [Reg.atOffset, ite_eq_iff, reduceCtorEq, and_false, and_true, or_false, false_or]
  omega

theorem eq_zero_of_mem_zeroSchedule {k : Block} (member : k ∈ zeroSchedule) : k = 0 := List.eq_of_mem_replicate member

theorem statusWord_resetWith (p : Params) : (State.resetWith p).statusWord = 0 := by
  simp [State.statusWord, State.resetWith, State.irq, KeySize.bit, HashMode.bit, Phase.code]

theorem ctrlWord_resetWith (p : Params) : (State.resetWith p).ctrlWord = 0 := by
  simp [State.ctrlWord, State.resetWith]

/-- After reset every register but ID and CAP shows 0 (10_state.md R46). -/
theorem regValue_resetWith (p : Params) (r : Reg) : (State.resetWith p).regValue r =
    if r = .id then 0x47535631 else if r = .cap then (if p.pipe then 0x0000000F else 0x0000000E) else 0 := by
  cases r with
  | id => rfl
  | cap => exact capWord_eq _
  | ctrl => exact ctrlWord_resetWith p
  | status => exact statusWord_resetWith p
  | cmd | errinfo | key _ | reserved => rfl
  | alen i | mlen i | nonce i | tag i | acc i | ctr i => exact wordAt_zero _ i
  | din j i | dout j i => simp [State.regValue, State.resetWith]

end Sys2Proof.Machine

namespace Sys2Proof.Proofs
open Sys2Proof.Machine

/-- Settles O11, by the three cases of a write to CMD: BUSY, ERR with another command than ZERO, or accepted. -/
theorem commandIssue : Obligations.CommandIssue := by
  intro s w
  have write_idle : s.busy = false → s.hostWrite 0x010 w = s.issue w := hostWrite_of_not_busy 0x010 w
  refine ⟨fun pending => ?_, fun idle error other => ?_, fun idle ok => ?_, ?_⟩
  · exact hostWrite_of_busy_guarded w pending rfl
  · rw [write_idle idle, issue_discarded error other]
  · rw [write_idle idle, issue_accepted ok, State.accept]
  · exact readValue_of_undrawn s rfl

/-- Settles O18: none of the three registers has drawn bits or a BUSY error, so each clause is that of a read or a
write performed as it stands. -/
theorem idCapCtrl : Obligations.IdCapCtrl := by
  intro s v
  have write_ctrl : s.hostWrite 0x008 v = s.writeCtrl v := hostWrite_of_unguarded s v rfl
  refine ⟨?_, ?_, ?_, ?_, write_ctrl, ?_⟩
  · exact readValue_of_undrawn s rfl
  · exact hostWrite_of_unguarded s v rfl
  · exact (readValue_of_undrawn s rfl).trans (capWord_eq s)
  · exact hostWrite_of_unguarded s v rfl
  · rw [write_ctrl]
    exact (readValue_of_undrawn _ rfl).trans (ctrlWord_writeCtrl s v)

/-- Settles O22: the window by the register at each offset, the internal state field by field. -/
theorem registersAfterReset : Obligations.RegistersAfterReset := by
  intro p
  refine ⟨fun off _ aligned => ?_, ?_, fun j => ?_, fun j => ?_, fun _ => eq_zero_of_mem_zeroSchedule,
    fun _ => eq_zero_of_mem_zeroSchedule, ?_, ?_⟩
  · rw [readValue_of_not_busy rfl, regValue_resetWith]
    simp only [atOffset_eq_id_iff aligned, atOffset_eq_cap_iff aligned]
  · simp [State.resetWith]
  · simp [State.resetWith]
  · simp [State.resetWith]
  · simp [State.resetWith]
  · simp [State.resetWith, State.irq]

end Sys2Proof.Proofs
end

section
/-! PROOFS. The classification of a command word (30_encoding.md R102): which clause of the decoder a word reaches, the
bits an opcode leaves unused, and the match and mask of a legal word. -/

namespace Sys2Proof

open Sys2Proof.Statements (assignedOps matchMask)

/-! ## The opcode of a word -/

theorem ofByte_eq_some_iff (b : Byte) (op : Op) : Op.ofByte b = some op ↔ op.byte = b := by
  constructor
  · intro found
    simpa using List.find?_some found
  · rintro rfl
    cases op <;> rfl

theorem mem_assignedOps_iff (b : Byte) : b ∈ assignedOps ↔ ∃ op : Op, op.byte = b := by
  have every_op (op : Op) : op ∈ Op.table := by cases op <;> decide
  rw [show assignedOps = Op.table.map Op.byte from rfl]
  simp [every_op]

theorem pipeOnly_iff (op : Op) : op.pipeOnly = true ↔ op.byte ∈ ([0x13, 0x32, 0x33] : List Byte) := by
  cases op <;> decide

/-! ## Reserved bits -/

/-- A bit of 31:8 that the opcode does not use is 1 (30_encoding.md R102 step 2). -/
def HasReservedBit (op : Op) (w : Word) : Prop :=
  ∃ b, 8 ≤ b ∧ b < 32 ∧ w.getLsbD b = true ∧ op.usedBits.getLsbD b = false

theorem getLsbD_highMask {b : Nat} (inside : b < 32) : (0xFFFFFF00 : Word).getLsbD b = decide (8 ≤ b) := by
  revert b
  decide

/-- The decoder's mask test finds exactly the reserved bits that are 1. -/
theorem reservedMask_ne_zero_iff (op : Op) (w : Word) :
    (w &&& 0xFFFFFF00) &&& ~~~op.usedBits ≠ 0 ↔ HasReservedBit op w := by
  have bit_of_masked {b : Nat} (inside : b < 32) : ((w &&& 0xFFFFFF00) &&& ~~~op.usedBits).getLsbD b =
      (w.getLsbD b && decide (8 ≤ b) && !op.usedBits.getLsbD b) := by
    rw [BitVec.getLsbD_and, BitVec.getLsbD_and, BitVec.getLsbD_not, getLsbD_highMask inside]
    simp only [inside, decide_true, Bool.true_and]
  constructor
  · intro nonzero
    by_contra no_bit
    refine nonzero (BitVec.eq_of_getLsbD_eq fun b inside => ?_)
    rw [bit_of_masked inside, show (0 : Word).getLsbD b = false from BitVec.getLsbD_zero]
    by_contra set
    simp only [Bool.not_eq_false, Bool.and_eq_true, decide_eq_true_eq, Bool.not_eq_true'] at set
    obtain ⟨⟨one, high⟩, unused⟩ := set
    exact no_bit ⟨b, high, inside, one, unused⟩
  · rintro ⟨b, high, inside, one, unused⟩ zero
    have masked := bit_of_masked inside
    rw [zero] at masked
    simp [high, one, unused] at masked

/-! ## The decoder, one equation per clause -/

theorem decode_of_unassigned (pipe : Bool) {w : Word} (unassigned : opField w ∉ assignedOps) :
    decode pipe w = .error .illegal := by
  have no_op : Op.ofByte (opField w) = none := by
    by_contra found
    obtain ⟨op, found⟩ := Option.ne_none_iff_exists'.mp found
    exact unassigned ((mem_assignedOps_iff _).mpr ⟨op, (ofByte_eq_some_iff _ _).mp found⟩)
  simp [decode, no_op]

section Row
variable {pipe : Bool} {w : Word} {op : Op} (row : op.byte = opField w)
include row

theorem decode_of_pipeOnly (multi : op.pipeOnly = true) : decode false w = .error .illegal := by
  simp [decode, (ofByte_eq_some_iff _ _).mpr row, multi]

theorem decode_of_reserved (present : op.pipeOnly = true → pipe = true) (reserved : HasReservedBit op w) :
    decode pipe w = .error .reserved := by
  simp only [decode, (ofByte_eq_some_iff _ _).mpr row]
  rw [if_neg (by simpa using present), if_pos ((reservedMask_ne_zero_iff op w).mpr reserved)]

theorem decode_of_not_reserved (present : op.pipeOnly = true → pipe = true) (clean : ¬HasReservedBit op w) :
    decode pipe w = decodeOperands w op := by
  simp only [decode, (ofByte_eq_some_iff _ _).mpr row]
  rw [if_neg (by simpa using present), if_neg ((reservedMask_ne_zero_iff op w).not.mpr clean)]

end Row

/-! ## The operands -/

/-- KEXP with KSZ = 2 or 3 (30_encoding.md R102 step 3). -/
def BadKeySize (op : Op) (w : Word) : Prop := op = .kexp ∧ (kszField w = 2 ∨ kszField w = 3)

theorem keySize_ofField_eq_none_iff (k : BitVec 2) : KeySize.ofField k = none ↔ k = 2 ∨ k = 3 := by
  revert k
  decide

theorem decodeOperands_kexp_of_badKeySize {w : Word} (bad : kszField w = 2 ∨ kszField w = 3) :
    decodeOperands w .kexp = .error .keySize := by
  simp [decodeOperands, (keySize_ofField_eq_none_iff _).mpr bad]

/-- KSZ is the only operand the decoder can reject. -/
theorem decodeOperands_answers {w : Word} {op : Op} (good : ¬BadKeySize op w) : ∃ i, decodeOperands w op = .ok i := by
  cases op with
  | kexp =>
    have named : KeySize.ofField (kszField w) ≠ none := fun none_named =>
      good ⟨rfl, (keySize_ofField_eq_none_iff _).mp none_named⟩
    obtain ⟨ksz, named⟩ := Option.ne_none_iff_exists'.mp named
    exact ⟨.kexp ksz, by simp [decodeOperands, named]⟩
  | _ => exact ⟨_, rfl⟩

/-! ## Match and mask -/

/-- The bits the row's mask leaves free (30_encoding.md R101): the used bits, but of KSZ only its low bit. -/
def freeBits : Op → Word
  | .kexp => 0x00020000
  | op => op.usedBits

theorem row_mem_matchMask (op : Op) : (op, op.byte.setWidth 32, ~~~freeBits op) ∈ matchMask := by
  cases op <;> decide

theorem getLsbD_freeBits_of_low (op : Op) {b : Nat} (low : b < 8) : (freeBits op).getLsbD b = false := by
  revert b
  cases op <;> decide

theorem eq_17_or_18_of_kexp_used {b : Nat} (inside : b < 32) (used : Op.kexp.usedBits.getLsbD b = true) :
    b = 17 ∨ b = 18 := by
  revert b
  decide

theorem getLsbD_18_eq_false {w : Word} (good : ¬(kszField w = 2 ∨ kszField w = 3)) : w.getLsbD 18 = false := by
  have high_bit (k : BitVec 2) : ¬(k = 2 ∨ k = 3) → k.getLsbD 1 = false := by
    revert k
    decide
  simpa [kszField] using high_bit _ good

/-- Every bit of 31:8 that a legal word sets is free in its row. -/
theorem getLsbD_freeBits_of_one {op : Op} {w : Word} (clean : ¬HasReservedBit op w) (good : ¬BadKeySize op w) {b : Nat}
    (high : 8 ≤ b) (inside : b < 32) (one : w.getLsbD b = true) : (freeBits op).getLsbD b = true := by
  have used : op.usedBits.getLsbD b = true := by
    by_contra unused
    exact clean ⟨b, high, inside, one, by simpa using unused⟩
  cases op with
  | kexp =>
    rcases eq_17_or_18_of_kexp_used inside used with rfl | rfl
    · rfl
    · rw [getLsbD_18_eq_false fun bad => good ⟨rfl, bad⟩] at one
      cases one
  | _ => exact used

/-- A legal word is its opcode alone on the bits of its row's mask. -/
theorem and_mask_eq_match {op : Op} {w : Word} (row : op.byte = opField w) (clean : ¬HasReservedBit op w)
    (good : ¬BadKeySize op w) : w &&& ~~~freeBits op = op.byte.setWidth 32 := by
  apply BitVec.eq_of_getLsbD_eq
  intro b inside
  rw [row, BitVec.getLsbD_and, BitVec.getLsbD_not, BitVec.getLsbD_setWidth, opField, BitVec.getLsbD_extractLsb']
  by_cases low : b < 8
  · rw [getLsbD_freeBits_of_low op low]
    simp [inside, low]
  · cases one : w.getLsbD b with
    | false => simp [low]
    | true => simp [low, getLsbD_freeBits_of_one clean good (by omega) inside one]

end Sys2Proof

namespace Sys2Proof.Machine

theorem engineStep_of_error {s : State} {e : DecodeError} (bad : decode s.params.pipe s.pending = .error e) :
    engineStep s = .next (s.reject (decodeErrCode e)) := by
  simp [engineStep, bad]

theorem engineStep_of_ok {s : State} {i : Instr} (legal : decode s.params.pipe s.pending = .ok i) :
    engineStep s = exec i s := by
  simp [engineStep, legal]

end Sys2Proof.Machine

namespace Sys2Proof.Proofs
open Sys2Proof.Machine

/-- Settles O4, by the clause of the decoder each of the four steps of 30_encoding.md R102 selects. -/
theorem engineStepClassifiesWord : Obligations.EngineStepClassifiesWord := by
  intro s w unassigned reservedSet
  have present_of {op : Op} (row : op.byte = opField w) (assigned : ¬unassigned) (multi : op.pipeOnly = true) :
      s.params.pipe = true := by
    by_contra absent
    exact assigned (.inr ⟨row ▸ (pipeOnly_iff op).mp multi, by simpa using absent⟩)
  refine ⟨?illop, ?rsvd, ?keysz, ?legal⟩
  case illop =>
    rintro (no_op | ⟨multi, absent⟩)
    · exact engineStep_of_error (decode_of_unassigned _ no_op)
    · have every_multi : ([0x13, 0x32, 0x33] : List Byte) ⊆ Statements.assignedOps := by decide
      obtain ⟨op, row⟩ := (mem_assignedOps_iff _).mp (every_multi multi)
      refine engineStep_of_error (e := .illegal) ?_
      rw [absent]
      exact decode_of_pipeOnly row ((pipeOnly_iff op).mpr (row ▸ multi))
  case rsvd =>
    rintro assigned ⟨op, row, reserved⟩
    exact engineStep_of_error (decode_of_reserved row (present_of row assigned) reserved)
  case keysz =>
    intro assigned clean is_kexp bad
    have row : Op.kexp.byte = opField w := is_kexp.symm
    refine engineStep_of_error (e := .keySize) ?_
    rw [decode_of_not_reserved row (present_of row assigned) fun reserved => clean ⟨_, row, reserved⟩]
    exact decodeOperands_kexp_of_badKeySize bad
  case legal =>
    intro assigned clean good
    obtain ⟨op, row⟩ := (mem_assignedOps_iff _).mp (not_not.mp fun no_op => assigned (.inl no_op))
    have no_reserved : ¬HasReservedBit op w := fun reserved => clean ⟨op, row, reserved⟩
    have good_size : ¬BadKeySize op w := fun ⟨is_kexp, bad⟩ => good ⟨by rw [← row, is_kexp]; rfl, bad⟩
    obtain ⟨i, operands⟩ := decodeOperands_answers good_size
    have legal : decode s.params.pipe w = .ok i :=
      (decode_of_not_reserved row (present_of row assigned) no_reserved).trans operands
    exact ⟨op, _, _, i, row_mem_matchMask op, and_mask_eq_match row no_reserved good_size, legal, engineStep_of_ok legal⟩

end Sys2Proof.Proofs
end

section
/-! PROOFS. The AES unit (40_aes.md R121 to R127): the rounds of the cipher, the bytes of ShiftRows and MixColumns, the
S-box, and the words of the key schedule. -/

namespace Sys2Proof.Machine

open Sys2Proof.Statements (gf256Mul sboxAffine scheduleWord)

/-! ## The rounds -/

/-- A round key that is not the last one belongs to a round with MixColumns (40_aes.md R122). -/
theorem aesRounds_cons {ks : List Block} (more : ks ≠ []) (k s : Block) :
    aesRounds (k :: ks) s = aesRounds ks (mixColumns (shiftRows (subBytes s)) ^^^ k) := by
  cases ks with
  | nil => exact absurd rfl more
  | cons k' ks => rfl

theorem aesRounds_append_last (middle : List Block) (last s : Block) :
    aesRounds (middle ++ [last]) s =
      shiftRows (subBytes (middle.foldl (fun s k => mixColumns (shiftRows (subBytes s)) ^^^ k) s)) ^^^ last := by
  induction middle generalizing s with
  | nil => rfl
  | cons k middle ih =>
    rw [List.cons_append, aesRounds_cons (by simp), ih, List.foldl_cons]

/-! ## The rows of MixColumns, their terms in the order of the column (40_aes.md R127) -/

section
variable (a0 a1 a2 a3 : Byte)

theorem mixByte_row1 : mixByte a1 a2 a3 a0 = a0 ^^^ xtime a1 ^^^ (xtime a2 ^^^ a2) ^^^ a3 := by
  rw [mixByte]
  ac_rfl

theorem mixByte_row2 : mixByte a2 a3 a0 a1 = a0 ^^^ a1 ^^^ xtime a2 ^^^ (xtime a3 ^^^ a3) := by
  rw [mixByte]
  ac_rfl

theorem mixByte_row3 : mixByte a3 a0 a1 a2 = (xtime a0 ^^^ a0) ^^^ a1 ^^^ a2 ^^^ xtime a3 := by
  rw [mixByte]
  ac_rfl

end

/-! ## The bytes of the state, s[r][c] being byte r + 4c (40_aes.md R121) -/

theorem byteAt_subBytes (s : Block) {i : Nat} (inside : i < 16) : byteAt (subBytes s) i = sbox (byteAt s i) :=
  byteAt_blockOfBytes _ inside

section
variable (s : Block) {r c : Nat} (row : r < 4) (column : c < 4)
include row column

theorem byteAt_shiftRows : byteAt (shiftRows s) (r + 4 * c) = byteAt s (r + 4 * ((c + r) % 4)) := by
  have row_of : (r + 4 * c) % 4 = r := by omega
  have column_of : (r + 4 * c) / 4 = c := by omega
  rw [shiftRows, byteAt_blockOfBytes _ (by omega), row_of, column_of]

/-- Row r of a column reads the column downwards from row r on, cyclically. -/
theorem byteAt_mixColumns : byteAt (mixColumns s) (r + 4 * c) =
    mixByte (byteAt s (r + 4 * c)) (byteAt s ((r + 1) % 4 + 4 * c)) (byteAt s ((r + 2) % 4 + 4 * c))
      (byteAt s ((r + 3) % 4 + 4 * c)) := by
  have row_of : (r + 4 * c) % 4 = r := by omega
  have column_of : (r + 4 * c) / 4 = c := by omega
  rw [mixColumns, byteAt_blockOfBytes _ (by omega), row_of, column_of]
  simp only [Nat.add_comm (4 * c)]

end

/-! ## The S-box -/

/-- The inverse of the affine map of 40_aes.md R123. -/
def sboxAffineInv (b : Byte) : Byte := b.rotateLeft 1 ^^^ b.rotateLeft 3 ^^^ b.rotateLeft 6 ^^^ 0x05

theorem sboxAffine_sboxAffineInv (b : Byte) : sboxAffine (sboxAffineInv b) = b := by
  revert b
  decide +kernel

/-- The table's entry, taken back through the affine map, is the inverse of x in GF(2^8). -/
theorem gf256Mul_sboxAffineInv_sbox {x : Byte} (nonzero : x ≠ 0) : gf256Mul x (sboxAffineInv (sbox x)) 8 = 1 := by
  revert x
  decide +kernel

/-! ## The parts of a concatenation -/

@[simp] theorem byteAt_append_zero {u : Nat} (x : BitVec u) (y : Byte) : byteAt (x ++ y) 0 = y := by
  rw [byteAt, BitVec.extractLsb'_append_eq_of_add_le (by omega), BitVec.extractLsb'_eq_self]

@[simp] theorem byteAt_append_succ {u : Nat} (x : BitVec u) (y : Byte) (i : Nat) :
    byteAt (x ++ y) (i + 1) = byteAt x i := by
  rw [byteAt, BitVec.extractLsb'_append_eq_of_le (by omega), Nat.mul_succ, Nat.add_sub_cancel, byteAt]

@[simp] theorem wordAt_append_zero {u : Nat} (x : BitVec u) (y : Word) : wordAt (x ++ y) 0 = y := by
  rw [wordAt, BitVec.extractLsb'_append_eq_of_add_le (by omega), BitVec.extractLsb'_eq_self]

@[simp] theorem wordAt_append_succ {u : Nat} (x : BitVec u) (y : Word) (i : Nat) :
    wordAt (x ++ y) (i + 1) = wordAt x i := by
  rw [wordAt, BitVec.extractLsb'_append_eq_of_le (by omega), Nat.mul_succ, Nat.add_sub_cancel, wordAt]

theorem byteAt_self (b : Byte) : byteAt b 0 = b := BitVec.extractLsb'_eq_self

theorem wordAt_self (w : Word) : wordAt w 0 = w := BitVec.extractLsb'_eq_self

theorem byteAt_rotWord (v : Word) {b : Nat} (inside : b < 4) : byteAt (rotWord v) b = byteAt v ((b + 1) % 4) := by
  match b, inside with
  | 0, _ | 1, _ | 2, _ | 3, _ => simp [rotWord, byteAt_self]

theorem byteAt_subWord (v : Word) {b : Nat} (inside : b < 4) : byteAt (subWord v) b = sbox (byteAt v b) := by
  match b, inside with
  | 0, _ | 1, _ | 2, _ | 3, _ => simp [subWord, byteAt_self]

/-! ## The words of the key schedule (40_aes.md R124) -/

/-- Word j of a list of key words kept newest first. -/
def keyWordAt (ws : List Word) (j : Nat) : Word := ws.reverse.getD j 0

/-- The recurrence of 40_aes.md R124 on the words w. -/
def recurrenceWord (nk : Nat) (w : Nat → Word) (i : Nat) : Word :=
  w (i - nk) ^^^
    (if i % nk = 0 then subWord (rotWord (w (i - 1))) ^^^ (rcon (i / nk)).setWidth 32
     else if nk = 8 ∧ i % nk = 4 then subWord (w (i - 1))
     else w (i - 1))

theorem getD_eq_keyWordAt {ws : List Word} {m : Nat} (inside : m < ws.length) :
    ws.getD m 0 = keyWordAt ws (ws.length - 1 - m) := by
  rw [keyWordAt, List.getD_reverse _ (by omega), show ws.length - 1 - (ws.length - 1 - m) = m by omega]

theorem keyWordAt_cons_length (v : Word) (ws : List Word) : keyWordAt (v :: ws) ws.length = v := by
  rw [keyWordAt, List.reverse_cons, List.getD_append_right _ _ _ _ (by simp)]
  simp

theorem keyWordAt_cons_of_lt (v : Word) {ws : List Word} {j : Nat} (older : j < ws.length) :
    keyWordAt (v :: ws) j = keyWordAt ws j := by
  rw [keyWordAt, List.reverse_cons, List.getD_append _ _ _ _ (by simpa using older), keyWordAt]

theorem nextKeyWord_eq_recurrenceWord {nk : Nat} {ws : List Word} (positive : 0 < nk) (enough : nk ≤ ws.length) :
    nextKeyWord nk ws.length ws = recurrenceWord nk (keyWordAt ws) ws.length := by
  have newest : ws.getD 0 0 = keyWordAt ws (ws.length - 1) := getD_eq_keyWordAt (by omega)
  have nk_back : ws.getD (nk - 1) 0 = keyWordAt ws (ws.length - nk) := by
    rw [getD_eq_keyWordAt (by omega), show ws.length - 1 - (nk - 1) = ws.length - nk by omega]
  rw [nextKeyWord, newest, nk_back, recurrenceWord]

/-- Every word after the first nk follows the recurrence. -/
def FollowsRecurrence (nk : Nat) (ws : List Word) : Prop :=
  ∀ i, nk ≤ i → i < ws.length → keyWordAt ws i = recurrenceWord nk (keyWordAt ws) i

theorem FollowsRecurrence.cons {nk : Nat} {ws : List Word} (positive : 0 < nk) (enough : nk ≤ ws.length)
    (follows : FollowsRecurrence nk ws) : FollowsRecurrence nk (nextKeyWord nk ws.length ws :: ws) := by
  intro i later inside
  have at_most : i ≤ ws.length := by simpa using Nat.le_of_lt_succ inside
  have same_recurrence : recurrenceWord nk (keyWordAt (nextKeyWord nk ws.length ws :: ws)) i =
      recurrenceWord nk (keyWordAt ws) i := by
    simp only [recurrenceWord, keyWordAt_cons_of_lt _ (show i - nk < ws.length by omega),
      keyWordAt_cons_of_lt _ (show i - 1 < ws.length by omega)]
  rw [same_recurrence]
  rcases Nat.lt_or_eq_of_le at_most with older | rfl
  · rw [keyWordAt_cons_of_lt _ older, follows i later older]
  · rw [keyWordAt_cons_length, nextKeyWord_eq_recurrenceWord positive enough]

@[simp] theorem expandKeyWords_length (nk count i : Nat) (ws : List Word) :
    (expandKeyWords nk count i ws).length = ws.length + count := by
  induction count generalizing i ws with
  | zero => rfl
  | succ count ih => rw [expandKeyWords, ih, List.length_cons]; omega

theorem keyWordAt_expandKeyWords_of_lt (nk count i : Nat) {ws : List Word} {j : Nat} (older : j < ws.length) :
    keyWordAt (expandKeyWords nk count i ws) j = keyWordAt ws j := by
  induction count generalizing i ws with
  | zero => rfl
  | succ count ih =>
    rw [expandKeyWords, ih _ (by simpa using Nat.lt_succ_of_lt older), keyWordAt_cons_of_lt _ older]

theorem FollowsRecurrence.expand {nk : Nat} (positive : 0 < nk) (count : Nat) {ws : List Word}
    (enough : nk ≤ ws.length) (follows : FollowsRecurrence nk ws) :
    FollowsRecurrence nk (expandKeyWords nk count ws.length ws) := by
  induction count generalizing ws with
  | zero => exact follows
  | succ count ih => exact ih (by simpa using Nat.le_succ_of_le enough) (follows.cons positive enough)

/-! ## The round keys -/

theorem roundKeysOfWords_length (ws : List Word) : (roundKeysOfWords ws).length = ws.length / 4 := by
  induction ws using roundKeysOfWords.induct with
  | case1 a b c d rest ih => simp only [roundKeysOfWords, List.length_cons, ih]; omega
  | case2 | case3 | case4 | case5 => simp [roundKeysOfWords]

/-- The round keys hold the words in order. -/
theorem scheduleWord_roundKeysOfWords {ws : List Word} (whole : 4 ∣ ws.length) (i : Nat) :
    scheduleWord (roundKeysOfWords ws) i = ws.getD i 0 := by
  induction ws using roundKeysOfWords.induct generalizing i with
  | case1 a b c d rest ih =>
    match i with
    | 0 | 1 | 2 | 3 => simp [scheduleWord, roundKeysOfWords, wordAt_self]
    | i + 4 =>
      have rest_whole : 4 ∣ rest.length := by simp only [List.length_cons] at whole; omega
      simpa [scheduleWord, roundKeysOfWords] using ih rest_whole i
  | case2 => simp [scheduleWord, roundKeysOfWords]
  | case3 | case4 | case5 => simp at whole

/-- The key itself as words, newest first. -/
def ownKeyWords (nk : Nat) (k : KeyBytes) : List Word := ((List.range nk).map (wordAt k)).reverse

/-- All words of KeyExpansion, newest first. -/
def expandedKeyWords (ksz : KeySize) (k : KeyBytes) : List Word :=
  expandKeyWords (keyWords ksz) (4 * (roundCount ksz + 1) - keyWords ksz) (keyWords ksz)
    (ownKeyWords (keyWords ksz) k)

theorem keyExpansion_eq (ksz : KeySize) (k : KeyBytes) :
    keyExpansion ksz k = roundKeysOfWords (expandedKeyWords ksz k).reverse := rfl

@[simp] theorem ownKeyWords_length (nk : Nat) (k : KeyBytes) : (ownKeyWords nk k).length = nk := by simp [ownKeyWords]

theorem keyWordAt_ownKeyWords {nk i : Nat} (k : KeyBytes) (own : i < nk) :
    keyWordAt (ownKeyWords nk k) i = wordAt k i := by
  simp [keyWordAt, ownKeyWords, own]

theorem keyWords_pos (ksz : KeySize) : 0 < keyWords ksz := by cases ksz <;> decide

theorem expandedKeyWords_length (ksz : KeySize) (k : KeyBytes) :
    (expandedKeyWords ksz k).length = 4 * (roundCount ksz + 1) := by
  have own_within : keyWords ksz ≤ 4 * (roundCount ksz + 1) := by cases ksz <;> decide
  rw [expandedKeyWords, expandKeyWords_length, ownKeyWords_length, Nat.add_sub_cancel' own_within]

theorem followsRecurrence_expandedKeyWords (ksz : KeySize) (k : KeyBytes) :
    FollowsRecurrence (keyWords ksz) (expandedKeyWords ksz k) := by
  have own_follows : FollowsRecurrence (keyWords ksz) (ownKeyWords (keyWords ksz) k) := fun i later inside =>
    absurd inside (by simpa using later)
  simpa [expandedKeyWords] using own_follows.expand (keyWords_pos ksz) _ (by simp)

theorem keyExpansion_length (ksz : KeySize) (k : KeyBytes) : (keyExpansion ksz k).length = roundCount ksz + 1 := by
  rw [keyExpansion_eq, roundKeysOfWords_length, List.length_reverse, expandedKeyWords_length,
    Nat.mul_div_cancel_left _ (by omega)]

theorem scheduleWord_keyExpansion (ksz : KeySize) (k : KeyBytes) :
    scheduleWord (keyExpansion ksz k) = keyWordAt (expandedKeyWords ksz k) := by
  have whole : 4 ∣ (expandedKeyWords ksz k).reverse.length := by
    rw [List.length_reverse, expandedKeyWords_length]
    exact Nat.dvd_mul_right ..
  funext i
  rw [keyExpansion_eq, scheduleWord_roundKeysOfWords whole, keyWordAt]

/-- The first Nk words of the schedule are the key. -/
theorem scheduleWord_keyExpansion_own {ksz : KeySize} (k : KeyBytes) {i : Nat} (own : i < keyWords ksz) :
    scheduleWord (keyExpansion ksz k) i = wordAt k i := by
  rw [scheduleWord_keyExpansion, expandedKeyWords, keyWordAt_expandKeyWords_of_lt _ _ _ (by simpa using own),
    keyWordAt_ownKeyWords k own]

/-- Every later word of the schedule follows the recurrence. -/
theorem scheduleWord_keyExpansion_later {ksz : KeySize} (k : KeyBytes) {i : Nat} (later : keyWords ksz ≤ i)
    (inside : i < 4 * (roundCount ksz + 1)) :
    scheduleWord (keyExpansion ksz k) i = recurrenceWord (keyWords ksz) (scheduleWord (keyExpansion ksz k)) i := by
  rw [scheduleWord_keyExpansion]
  exact followsRecurrence_expandedKeyWords ksz k i later (by rwa [expandedKeyWords_length])

theorem rcon_succ {j : Nat} (from_one : 1 ≤ j) : rcon (j + 1) = xtime (rcon j) := by
  obtain ⟨j, rfl⟩ := Nat.exists_eq_add_of_le' from_one
  rfl

end Sys2Proof.Machine

namespace Sys2Proof.Proofs
open Sys2Proof.Machine

/-- Settles O35, by induction on the middle round keys. -/
theorem aesIsItsRounds : Obligations.AesIsItsRounds := fun first last middle b =>
  aesRounds_append_last middle last (b ^^^ first)

/-- Settles O33: byte r + 4c of each map, and each row of MixColumns with its terms back in the order of the column. -/
theorem shiftRowsMixColumnsBytes : Obligations.ShiftRowsMixColumnsBytes := by
  intro s r c row column
  refine ⟨byteAt_shiftRows s row column, ?_, ?_, ?_, ?_⟩
  · exact byteAt_mixColumns s (by decide) column
  · exact (byteAt_mixColumns s (by decide) column).trans (mixByte_row1 ..)
  · exact (byteAt_mixColumns s (by decide) column).trans (mixByte_row2 ..)
  · exact (byteAt_mixColumns s (by decide) column).trans (mixByte_row3 ..)

/-- Settles O34: the schedule's words are the expanded words, oldest first, and each word put in front of them is the
recurrence's; the bytes of RotWord and SubWord and the round constants by their definitions. -/
theorem keyExpansionRecurrence : Obligations.KeyExpansionRecurrence := by
  refine ⟨fun ksz k => ?_, fun v b inside => ⟨byteAt_rotWord v inside, byteAt_subWord v inside⟩, by decide,
    fun j from_one => rcon_succ from_one⟩
  have own (i : Nat) (within : i < keyWords ksz) := scheduleWord_keyExpansion_own k within
  have later (i : Nat) (past : keyWords ksz ≤ i) (inside : i < 4 * (roundCount ksz + 1)) :=
    scheduleWord_keyExpansion_later k past inside
  cases ksz <;> exact ⟨keyExpansion_length _ k, own, later⟩

/-- Settles O32: the inverse of x is its table entry taken back through the affine map. -/
theorem sboxIsAffineInverse : Obligations.SboxIsAffineInverse := by
  refine ⟨fun x => ⟨sboxAffineInv (sbox x), ?_, (sboxAffine_sboxAffineInv _).symm⟩,
    fun s i inside => byteAt_subBytes s inside⟩
  split
  next zero => rw [zero]; decide
  next nonzero => exact gf256Mul_sboxAffineInv_sbox nonzero

end Sys2Proof.Proofs
end

section
/-! PROOFS. The POLYVAL and GHASH products keep exclusive-or (41_uhash.md R153, R154), and the mirror relation between
them (R166). POLYVAL's x^i is bit i of the block, GHASH's is bit 127 - i of the byte-reversed block: the same integers in
mirrored bit orders, so the shift of the GHASH loop is one turn of the POLYVAL reduction. -/

namespace Sys2Proof.Machine

/-! ## Blocks as exclusive-ors of single bits -/

/-- What holds of every single bit, and of an exclusive-or when it holds of both sides, holds of every block. -/
theorem block_xor_induction {motive : Block → Prop} (bit : ∀ i < 128, motive (BitVec.twoPow 128 i))
    (xor : ∀ a b, motive a → motive b → motive (a ^^^ b)) (a : Block) : motive a := by
  suffices below : ∀ n ≤ 128, ∀ a : Block, (∀ i, n ≤ i → a.getLsbD i = false) → motive a from
    below 128 le_rfl a fun i => BitVec.getLsbD_of_ge a i
  intro n
  induction n with
  | zero =>
    intro _ a clear
    have zero : a = BitVec.twoPow 128 0 ^^^ BitVec.twoPow 128 0 := by
      rw [BitVec.xor_self]
      exact BitVec.eq_of_getLsbD_eq fun i _ => by rw [clear i (Nat.zero_le i), BitVec.getLsbD_zero]
    rw [zero]
    exact xor _ _ (bit 0 (by decide)) (bit 0 (by decide))
  | succ n ih =>
    intro inside a clear
    cases top : a.getLsbD n with
    | false =>
      refine ih (by omega) a fun i above => ?_
      rcases above.eq_or_lt with rfl | above
      · exact top
      · exact clear i above
    | true =>
      have lower : motive (a ^^^ BitVec.twoPow 128 n) := by
        refine ih (by omega) _ fun i above => ?_
        rw [BitVec.getLsbD_xor, BitVec.getLsbD_twoPow]
        rcases above.eq_or_lt with rfl | above
        · simp [top, Nat.lt_of_succ_le inside]
        · simp [clear i above, above.ne]
      have restored := xor _ _ lower (bit n inside)
      rwa [BitVec.xor_assoc, BitVec.xor_self, BitVec.xor_zero] at restored

/-- A conditional exclusive-or with the condition moved to the added term. -/
theorem ite_xor_right {w : Nat} (p : Bool) (z v : BitVec w) :
    (if p = true then z ^^^ v else z) = z ^^^ if p = true then v else 0#w := by
  cases p <;> simp

theorem ite_xor_condition {w : Nat} (p q : Bool) (v : BitVec w) :
    (if (p ^^ q) = true then v else 0#w) = (if p = true then v else 0#w) ^^^ if q = true then v else 0#w := by
  cases p <;> cases q <;> simp

theorem reverseBytes_xor (a b : Block) : reverseBytes (a ^^^ b) = reverseBytes a ^^^ reverseBytes b :=
  block_ext fun i inside => by simp only [byteAt_xor, byteAt_reverseBytes _ inside]

/-! ## The carry-less product -/

theorem clmulUpto_xor_left (a b c : Block) (k : Nat) :
    clmulUpto (a ^^^ b) c k = clmulUpto a c k ^^^ clmulUpto b c k := by
  induction k with
  | zero => exact BitVec.xor_zero.symm
  | succ k ih =>
    rw [clmulUpto, clmulUpto, clmulUpto, ih]
    cases c.getLsbD k with
    | false => simp
    | true =>
      simp only [if_true, BitVec.setWidth_xor, BitVec.shiftLeft_xor_distrib]
      ac_rfl

theorem clmul_xor_left (a b c : Block) : clmul (a ^^^ b) c = clmul a c ^^^ clmul b c := clmulUpto_xor_left a b c 128

/-- The carry-less product of x^i and the first k coefficients of b, bit by bit. -/
theorem getLsbD_clmulUpto_twoPow {i j : Nat} (inside : i < 128) (fits : j < 256) (b : Block) (k : Nat) :
    (clmulUpto (BitVec.twoPow 128 i) b k).getLsbD j = (decide (i ≤ j ∧ j < i + k) && b.getLsbD (j - i)) := by
  induction k with
  | zero =>
    have none_yet : ¬(i ≤ j ∧ j < i + 0) := by omega
    rw [clmulUpto, decide_eq_false none_yet, Bool.false_and, BitVec.ofNat_eq_ofNat, BitVec.getLsbD_zero]
  | succ k ih =>
    have term : (if b.getLsbD k then (BitVec.twoPow 128 i).setWidth 256 <<< k else 0).getLsbD j =
        (decide (j = i + k) && b.getLsbD k) := by
      cases b.getLsbD k with
      | false => simp
      | true =>
        simp only [if_true, BitVec.getLsbD_shiftLeft, BitVec.getLsbD_setWidth, BitVec.getLsbD_twoPow]
        grind
    rw [clmulUpto, BitVec.getLsbD_xor, ih, term]
    by_cases newest : j = i + k
    · simp [newest]
    · simp [newest, show (j < i + (k + 1)) ↔ j < i + k by omega]

/-- The single bit x^i times a block is the block shifted left by i. -/
theorem clmul_twoPow {i : Nat} (inside : i < 128) (b : Block) :
    clmul (BitVec.twoPow 128 i) b = b.setWidth 256 <<< i := by
  apply BitVec.eq_of_getLsbD_eq
  intro j fits
  rw [clmul, getLsbD_clmulUpto_twoPow inside fits, BitVec.getLsbD_shiftLeft, BitVec.getLsbD_setWidth]
  by_cases past : j < i + 128
  · grind
  · simp [past, BitVec.getLsbD_of_ge b (j - i) (by omega)]

/-! ## The reduction -/

theorem montgomeryStep_xor (r q : BitVec 256) : montgomeryStep (r ^^^ q) = montgomeryStep r ^^^ montgomeryStep q := by
  simp only [montgomeryStep, ite_xor_right, BitVec.getLsbD_xor, ite_xor_condition, BitVec.ushiftRight_xor_distrib]
  ac_rfl

theorem montgomery_xor (k : Nat) (r q : BitVec 256) : montgomery k (r ^^^ q) = montgomery k r ^^^ montgomery k q := by
  induction k generalizing r q with
  | zero => rfl
  | succ k ih => rw [montgomery, montgomery, montgomery, montgomeryStep_xor, ih]

theorem montgomery_eq_iterate (k : Nat) (r : BitVec 256) : montgomery k r = montgomeryStep^[k] r := by
  induction k generalizing r with
  | zero => rfl
  | succ k ih => rw [montgomery, ih, Function.iterate_succ_apply]

/-- A turn takes back a shift to the left that lost no bit. -/
theorem montgomeryStep_shiftLeft {r : BitVec 256} (kept : r.getLsbD 255 = false) : montgomeryStep (r <<< 1) = r := by
  have even : (r <<< 1).getLsbD 0 = false := by simp
  apply BitVec.eq_of_getLsbD_eq
  intro j fits
  rw [montgomeryStep, even, if_neg Bool.false_ne_true, BitVec.getLsbD_ushiftRight, BitVec.getLsbD_shiftLeft]
  rcases Nat.lt_or_eq_of_le (Nat.le_of_lt_succ fits) with lower | rfl
  · simp [show 1 + j < 256 by omega]
  · rw [kept]
    rfl

/-- The first turns take back the shift to the left of a block that still fits. -/
theorem iterate_montgomeryStep_shiftLeft {k : Nat} (fits : k ≤ 128) (v : Block) :
    montgomeryStep^[k] (v.setWidth 256 <<< k) = v.setWidth 256 := by
  induction k with
  | zero => rw [Function.iterate_zero_apply, BitVec.shiftLeft_zero]
  | succ k ih =>
    have kept : (v.setWidth 256 <<< k).getLsbD 255 = false := by
      rw [BitVec.getLsbD_shiftLeft, BitVec.getLsbD_setWidth, BitVec.getLsbD_of_ge v (255 - k) (by omega)]
      simp
    rw [Function.iterate_succ_apply, BitVec.shiftLeft_add, montgomeryStep_shiftLeft kept, ih (by omega)]

/-- On a block a turn is the shift of the GHASH loop. -/
theorem montgomeryStep_setWidth (v : Block) : montgomeryStep (v.setWidth 256) = (ghashShift v).setWidth 256 := by
  have modulus_shifted : polyvalModulus >>> 1 = (0xE1#128 <<< 120).setWidth 256 := by decide
  have low_bit : (v.setWidth 256).getLsbD 0 = v.getLsbD 0 := by simp
  have widen : (v >>> 1).setWidth 256 = v.setWidth 256 >>> 1 := BitVec.setWidth_ushiftRight (by decide)
  rw [montgomeryStep, ghashShift, low_bit]
  cases v.getLsbD 0 with
  | false => exact widen.symm
  | true => simp only [if_true, BitVec.ushiftRight_xor_distrib, BitVec.setWidth_xor, modulus_shifted, widen]

theorem iterate_montgomeryStep_setWidth (k : Nat) (v : Block) :
    montgomeryStep^[k] (v.setWidth 256) = (ghashShift^[k] v).setWidth 256 :=
  (Function.Semiconj.iterate_right (f := BitVec.setWidth 256) (fun v => (montgomeryStep_setWidth v).symm) k v).symm

/-! ## The two products -/

theorem dot_xor_left (a b h : Block) : dot (a ^^^ b) h = dot a h ^^^ dot b h := by
  rw [dot, clmul_xor_left, montgomery_xor, BitVec.setWidth_xor, ← dot, ← dot]

/-- x^i under the POLYVAL product: of the 128 turns i take back the shift by i and the others shift the block. -/
theorem dot_twoPow {i : Nat} (inside : i < 128) (h : Block) :
    dot (BitVec.twoPow 128 i) h = ghashShift^[128 - i] h := by
  have turns : montgomeryStep^[128] = montgomeryStep^[128 - i] ∘ montgomeryStep^[i] := by
    rw [← Function.iterate_add, Nat.sub_add_cancel inside.le]
  rw [dot, clmul_twoPow inside, montgomery_eq_iterate, turns, Function.comp_apply,
    iterate_montgomeryStep_shiftLeft inside.le, iterate_montgomeryStep_setWidth]
  exact BitVec.setWidth_setWidth_of_le _ (by decide) |>.trans (BitVec.setWidth_eq _)

theorem ghashLoop_xor (x y z w v : Block) (k : Nat) :
    ghashLoop (x ^^^ y) k (z ^^^ w) v = ghashLoop x k z v ^^^ ghashLoop y k w v := by
  induction k generalizing z w v with
  | zero => rfl
  | succ k ih =>
    rw [ghashLoop, ghashLoop, ghashLoop, ← ih, BitVec.getLsbD_xor]
    congr 1
    simp only [ite_xor_right, ite_xor_condition]
    ac_rfl

/-- x^i under the loop with k turns left: the turn that meets bit i adds V, shifted once per turn before it. -/
theorem ghashLoop_twoPow {i : Nat} (inside : i < 128) (k : Nat) (z v : Block) :
    ghashLoop (BitVec.twoPow 128 i) k z v = if i < k then z ^^^ ghashShift^[k - 1 - i] v else z := by
  induction k generalizing z v with
  | zero => rfl
  | succ k ih =>
    rw [ghashLoop, ih, BitVec.getLsbD_twoPow]
    rcases lt_trichotomy i k with later | rfl | passed
    · rw [if_pos later, if_pos (Nat.lt_succ_of_lt later), ← Function.iterate_succ_apply,
        show (k - 1 - i).succ = k + 1 - 1 - i by omega]
      simp [later.ne]
    · simp [inside]
    · simp [passed.ne', passed.not_gt, show ¬i < k + 1 by omega]

/-- The POLYVAL product is the GHASH loop under the key shifted once. -/
theorem dot_eq_ghashLoop (a h : Block) : dot a h = ghashLoop a 128 0 (ghashShift h) := by
  induction a using block_xor_induction with
  | bit i inside =>
    rw [dot_twoPow inside, ghashLoop_twoPow inside, if_pos inside, ← Function.iterate_succ_apply,
      show (128 - 1 - i).succ = 128 - i by omega]
    exact BitVec.zero_xor.symm
  | xor a b left right =>
    rw [dot_xor_left, left, right, ← ghashLoop_xor, show (0 : Block) ^^^ 0 = 0 from BitVec.xor_self]

/-! ## The mirror relation (41_uhash.md R166) -/

/-- mulX_GHASH: one shift of the block as a big-endian integer. -/
def mulXGhash (b : Block) : Block := reverseBytes (ghashShift (reverseBytes b))

theorem dot_eq_reverseBytes_gmul (a h : Block) :
    dot a h = reverseBytes (gmul (reverseBytes a) (mulXGhash (reverseBytes h))) := by
  simp only [gmul, mulXGhash, reverseBytes_reverseBytes, dot_eq_ghashLoop]

theorem hashFold_polyval_eq_reverseBytes (h s : Block) (xs : List Block) :
    hashFold .polyval h s xs =
      reverseBytes (hashFold .ghash (mulXGhash (reverseBytes h)) (reverseBytes s) (xs.map reverseBytes)) := by
  induction xs generalizing s with
  | nil => exact (reverseBytes_reverseBytes s).symm
  | cons x xs ih =>
    have update : reverseBytes (hashUpd .polyval h s x) =
        hashUpd .ghash (mulXGhash (reverseBytes h)) (reverseBytes s) (reverseBytes x) := by
      simp only [hashUpd, hashMul, dot_eq_reverseBytes_gmul, reverseBytes_reverseBytes, reverseBytes_xor]
    rw [hashFold, ih, update, List.map_cons, hashFold]

end Sys2Proof.Machine

namespace Sys2Proof.Proofs
open Sys2Proof.Machine

/-- Settles O41, by induction on the blocks from any running value: in each update Dot is the GHASH loop on the same
integers under the key shifted once, and mulX_GHASH is that shift. -/
theorem mirrorRelation : Obligations.MirrorRelation := by
  intro h xs
  exact hashFold_polyval_eq_reverseBytes h 0 xs

end Sys2Proof.Proofs
end

section
/-! PROOFS. The key derivation (42_kdf.md R190 to R192): its one check, the layout of the subkeys, and its result. -/

namespace Sys2Proof.Machine

theorem reject_eq_rejected (s : State) (e : ErrCode) : s.reject e = Statements.rejected s e.code := rfl

/-- EK for a 16-byte key: the halves of blocks 2 and 3, the other 16 bytes zero (42_kdf.md R192). -/
theorem derivedEK_of_aes128 {s : State} (size : s.mksz = .aes128) :
    s.derivedEK = 0#128 ++ s.kdfHalf 3 ++ s.kdfHalf 2 := by
  simp [State.derivedEK, size]

/-- EK for a 32-byte key: the halves of blocks 2 to 5 (42_kdf.md R192). -/
theorem derivedEK_of_aes256 {s : State} (size : s.mksz = .aes256) :
    s.derivedEK = s.kdfHalf 5 ++ s.kdfHalf 4 ++ s.kdfHalf 3 ++ s.kdfHalf 2 := by
  simp [State.derivedEK, size]

/-- Without a master key KDF is NOKEY. -/
theorem exec_kdf_of_unkeyed {s : State} (unkeyed : s.kv = false) : exec .kdf s = .next (s.reject .nokey) := by
  apply exec_of_failing
  simp [commandChecks, State.kdfChecks, firstError_cons, unkeyed]

/-- With a master key KDF has nothing to check: it completes with its whole effect. -/
theorem exec_kdf_of_keyed {s : State} (keyed : s.kv = true) : exec .kdf s = .next s.kdfEffect.complete := by
  apply exec_of_passing
  simp [commandChecks, State.kdfChecks, firstError_cons, keyed]

end Sys2Proof.Machine

namespace Sys2Proof.Proofs
open Sys2Proof.Machine

/-- Settles O38, by KDF's one check: the subkeys of the completed state are the derived ones, EK by the key size, and the
other fields are those of the two clear operations and of completion. -/
theorem kdfResult : Obligations.KdfResult := by
  intro s e
  refine ⟨fun unkeyed => ?nokey, fun keyed =>
    ⟨s.kdfEffect.complete, exec_kdf_of_keyed keyed, ?h, ?ek128, ?ek256, ?frame⟩⟩
  case nokey => rw [exec_kdf_of_unkeyed unkeyed, reject_eq_rejected, ErrCode.code]
  case h => rfl
  case ek128 => exact derivedEK_of_aes128
  case ek256 => exact derivedEK_of_aes256
  case frame => rfl

end Sys2Proof.Proofs
end

section
/-! PROOFS. The tag finalisation (43_tag.md R200, R201): the bytes of the pre-tag, TAGF's three checks in order, and its
result. -/

namespace Sys2Proof.Machine

/-! ## The pre-tag by bytes -/

/-- A widened field keeps its bytes, and reads 0 above them. -/
theorem byteAt_setWidth {v w : Nat} (wider : v ≤ w) (b : BitVec v) (i : Nat) :
    byteAt (b.setWidth w) i = byteAt b i := by
  apply BitVec.eq_of_getLsbD_eq
  intro k hk
  by_cases inside : 8 * i + k < w
  · simp [byteAt, hk, inside]
  · simp [byteAt, hk, inside, BitVec.getLsbD_of_ge b (8 * i + k) (by omega)]

theorem getLsbD_clearTopBit (b : Block) {k : Nat} (inside : k < 128) :
    (clearTopBit b).getLsbD k = (b.getLsbD k && decide (k ≠ 127)) := by
  rw [clearTopBit, ← BitVec.twoPow_eq, BitVec.getLsbD_and, BitVec.getLsbD_not, BitVec.getLsbD_twoPow]
  simp [inside, eq_comm]

theorem byteAt_clearTopBit_lower (b : Block) {i : Nat} (lower : i < 15) : byteAt (clearTopBit b) i = byteAt b i := by
  apply BitVec.eq_of_getLsbD_eq
  intro k hk
  simp [byteAt, hk, getLsbD_clearTopBit b (show 8 * i + k < 128 by omega), show 8 * i + k ≠ 127 by omega]

theorem byteAt_clearTopBit_top (b : Block) : byteAt (clearTopBit b) 15 = byteAt b 15 &&& 0x7F := by
  have mask : ∀ k < 8, (0x7F : Byte).getLsbD k = decide (k ≠ 7) := by decide
  apply BitVec.eq_of_getLsbD_eq
  intro k hk
  rw [BitVec.getLsbD_and, mask k hk]
  simp [byteAt, hk, getLsbD_clearTopBit b (show 8 * 15 + k < 128 by omega), show 120 + k = 127 ↔ k = 7 by omega]

/-- The nonce has no bytes from 12 on. -/
theorem byteAt_nonce_above (n : Nonce) {i : Nat} (above : 12 ≤ i) : byteAt n i = 0 := by
  apply BitVec.eq_of_getLsbD_eq
  intro k hk
  simp [byteAt, BitVec.getLsbD_of_ge n (8 * i + k) (by omega)]

theorem byteAt_preTag_lower (s : State) {i : Nat} (lower : i < 15) :
    byteAt s.preTag i = byteAt s.acc i ^^^ byteAt s.nonce i := by
  rw [State.preTag, byteAt_clearTopBit_lower _ lower, byteAt_xor, byteAt_setWidth (by decide)]

theorem byteAt_preTag_above_nonce (s : State) {i : Nat} (above : 12 ≤ i) (lower : i < 15) :
    byteAt s.preTag i = byteAt s.acc i := by
  rw [byteAt_preTag_lower s lower, byteAt_nonce_above s.nonce above]
  exact BitVec.xor_zero

theorem byteAt_preTag_top (s : State) : byteAt s.preTag 15 = byteAt s.acc 15 &&& 0x7F := by
  rw [State.preTag, byteAt_clearTopBit_top, byteAt_xor, byteAt_setWidth (by decide),
    byteAt_nonce_above s.nonce (by decide : 12 ≤ 15)]
  exact congrArg (· &&& 0x7F) BitVec.xor_zero

/-! ## TAGF's checks in order (43_tag.md R201) -/

theorem exec_tagf_of_no_subkey {s : State} (none_derived : s.sv = false) :
    exec .tagf s = .next (s.reject .nosubkey) := by
  apply exec_of_failing
  simp [commandChecks, State.tagfChecks, firstError_cons, none_derived]

theorem exec_tagf_of_ghash {s : State} (derived : s.sv = true) (mode : s.hmode = .ghash) :
    exec .tagf s = .next (s.reject .mode) := by
  apply exec_of_failing
  simp [commandChecks, State.tagfChecks, firstError_cons, derived, mode]

theorem exec_tagf_of_unfinished {s : State} (derived : s.sv = true) (mode : s.hmode = .polyval)
    (unfinished : s.ph ≠ .final) : exec .tagf s = .next (s.reject .seq) := by
  apply exec_of_failing
  simp [commandChecks, State.tagfChecks, firstError_cons, derived, mode, unfinished]

theorem exec_tagf_of_final {s : State} (derived : s.sv = true) (mode : s.hmode = .polyval)
    (finished : s.ph = .final) : exec .tagf s = .next s.tagfEffect.complete := by
  apply exec_of_passing
  simp [commandChecks, State.tagfChecks, firstError_cons, derived, mode, finished]

end Sys2Proof.Machine

namespace Sys2Proof.Proofs
open Sys2Proof.Machine

/-- Settles O51, by TAGF's checks in order: the pre-tag is the model's own, read byte by byte, and the completed state
is TAGF's effect with BUSY cleared and DONE set. The three rejections are the statement's `rejected` by definition
(`reject_eq_rejected`). -/
theorem tagfResult : Obligations.TagfResult := by
  intro s
  refine ⟨exec_tagf_of_no_subkey, exec_tagf_of_ghash, exec_tagf_of_unfinished, fun derived mode finished =>
    ⟨s.preTag, fun b low => ?nonce_bytes, fun b above lower => ?kept_bytes, ?top_byte, ?completes⟩⟩
  case nonce_bytes => exact byteAt_preTag_lower s (by omega)
  case kept_bytes => exact byteAt_preTag_above_nonce s above lower
  case top_byte => exact byteAt_preTag_top s
  case completes => exact exec_tagf_of_final derived mode finished

end Sys2Proof.Proofs
end

section
/-! PROOFS. The CTR unit (44_ctr.md R210 to R212): the counter increment by words and bytes, the counter seed by bytes,
CTRI's one check, and its result. -/

namespace Sys2Proof.Machine

/-! ## The increment (44_ctr.md R211) -/

/-- The low word of the counter, read little-endian, advances by one modulo 2^32. -/
theorem wordAt_inc_zero (c : Block) : wordAt (inc c) 0 = wordAt c 0 + 1 := wordAt_append_zero ..

/-- There is no carry into byte 4. -/
theorem byteAt_inc_upper (c : Block) {i : Nat} (upper : 4 ≤ i) (inside : i < 16) : byteAt (inc c) i = byteAt c i := by
  rw [byteAt, inc, BitVec.extractLsb'_append_eq_of_le (by omega)]
  apply BitVec.eq_of_getLsbD_eq
  intro k hk
  simp [byteAt, hk, show 8 * i - 32 + k < 96 by omega, show 32 + (8 * i - 32 + k) = 8 * i + k by omega]

theorem wordAt_incBy_zero (k : Nat) (c : Block) : wordAt (incBy k c) 0 = wordAt c 0 + BitVec.ofNat 32 k := by
  induction k with
  | zero => exact (BitVec.add_zero _).symm
  | succ k ih =>
    rw [incBy_succ, wordAt_inc_zero, ih, BitVec.ofNat_add]
    exact BitVec.add_assoc ..

theorem byteAt_incBy_upper (k : Nat) (c : Block) {i : Nat} (upper : 4 ≤ i) (inside : i < 16) :
    byteAt (incBy k c) i = byteAt c i := by
  induction k with
  | zero => rfl
  | succ k ih => rw [incBy_succ, byteAt_inc_upper _ upper inside, ih]

/-! ## The seed by bytes (44_ctr.md R210) -/

theorem getLsbD_setTopBit (b : Block) (k : Nat) :
    (setTopBit b).getLsbD k = (b.getLsbD k || decide (k = 127)) := by
  rw [setTopBit, ← BitVec.twoPow_eq, BitVec.getLsbD_or, BitVec.getLsbD_twoPow]
  simp [eq_comm]

theorem byteAt_setTopBit_lower (b : Block) {i : Nat} (lower : i < 15) : byteAt (setTopBit b) i = byteAt b i := by
  apply BitVec.eq_of_getLsbD_eq
  intro k hk
  simp [byteAt, hk, getLsbD_setTopBit, show 8 * i + k ≠ 127 by omega]

theorem byteAt_setTopBit_top (b : Block) : byteAt (setTopBit b) 15 = byteAt b 15 ||| 0x80 := by
  have mask : ∀ k < 8, (0x80 : Byte).getLsbD k = decide (k = 7) := by decide
  apply BitVec.eq_of_getLsbD_eq
  intro k hk
  rw [BitVec.getLsbD_or, mask k hk]
  simp [byteAt, hk, getLsbD_setTopBit, show 120 + k = 127 ↔ k = 7 by omega]

/-! ## CTRI's check (44_ctr.md R212) -/

/-- The seed is missing exactly when it is TAG and TAG is not valid. -/
theorem seedMissing_iff (s : State) (src : SeedSource) : s.seedMissing src = true ↔ src = .tag ∧ s.tv = false := by
  cases src <;> simp [State.seedMissing]

theorem exec_ctri_of_seed_missing {s : State} {src : SeedSource} (missing : s.seedMissing src = true) :
    exec (.ctri src) s = .next (s.reject .notag) := by
  apply exec_of_failing
  simp [commandChecks, State.ctriChecks, firstError_cons, missing]

theorem exec_ctri_of_seed_present {s : State} {src : SeedSource} (present : s.seedMissing src = false) :
    exec (.ctri src) s = .next (s.ctriEffect src).complete := by
  apply exec_of_passing
  simp [commandChecks, State.ctriChecks, firstError_cons, present]

end Sys2Proof.Machine

namespace Sys2Proof.Proofs
open Sys2Proof.Machine

/-- Settles O52, by induction on the number of increments: the low word has k added, so its number wraps modulo 2^32, and
no byte above it changes. -/
theorem incWrapsLowWord : Obligations.IncWrapsLowWord := by
  intro k c
  refine ⟨?low_word, fun b upper inside => byteAt_incBy_upper k c upper inside, fun s holds => ?keystream⟩
  case low_word =>
    calc (wordAt (incBy k c) 0).toNat
        = (wordAt c 0 + BitVec.ofNat 32 k).toNat := by rw [wordAt_incBy_zero]
      _ = ((wordAt c 0).toNat + k) % 2 ^ 32 := by rw [BitVec.toNat_add, BitVec.toNat_ofNat, Nat.add_mod_mod]
  case keystream => rw [State.keystream, holds]

/-- Settles O53, by CTRI's one check: a missing seed is NOTAG, and a present one, read byte by byte, is the counter of the
completed state; the other fields are those of CTRI's effect and of completion. The rejection is the statement's `rejected` by
definition (`reject_eq_rejected`). -/
theorem ctriResult : Obligations.CtriResult := by
  intro src s
  refine ⟨fun from_tag invalid => ?notag, fun valid =>
    ⟨(s.ctriEffect src).complete, exec_ctri_of_seed_present ?present, ⟨fun b lower => ?lower_bytes, ?top_byte⟩, ?frame⟩⟩
  case notag => exact exec_ctri_of_seed_missing ((seedMissing_iff s src).mpr ⟨from_tag, invalid⟩)
  case present =>
    rw [Bool.eq_false_iff, ne_eq, seedMissing_iff]
    rintro ⟨rfl, invalid⟩
    simp [invalid] at valid
  case lower_bytes => cases src <;> exact byteAt_setTopBit_lower _ lower
  case top_byte => cases src <;> exact byteAt_setTopBit_top _
  case frame => rfl

end Sys2Proof.Proofs
end

section
/-! PROOFS. Errors (60_exceptions.md R266, R267): the offsets of the guarded registers, what a host write does to the
error record and to the pending command, and what a command does to the error record. -/

namespace Sys2Proof.Machine

open Sys2Proof.Statements (guardedOffset)

/-! ## The map -/

theorem busyGuarded_atOffset_iff {off : Nat} (aligned : off % 4 = 0) (inside : off < 0x200) :
    (Reg.atOffset off).busyGuarded = true ↔ guardedOffset off := by
  simp only [Reg.atOffset, apply_ite Reg.busyGuarded]
  simp only [Reg.busyGuarded, guardedOffset, ite_eq_iff, Bool.false_eq_true, and_false, and_true, or_false, false_or]
  omega

theorem atOffset_eq_status_iff {off : Nat} (aligned : off % 4 = 0) : Reg.atOffset off = .status ↔ off = 0x00C := by
  simp only [Reg.atOffset, ite_eq_iff, reduceCtorEq, and_false, and_true, or_false, false_or]
  omega

/-! ## Writes -/

/-- A STATUS write as one record update (10_state.md R27). -/
theorem writeStatus_eq (s : State) (v : Word) : s.writeStatus v =
    { s with done := s.done && !v.getLsbD 1, err := s.err && !v.getLsbD 2,
             errcode := if v.getLsbD 2 then 0 else s.errcode, errinfo := if v.getLsbD 2 then 0 else s.errinfo } := by
  unfold State.writeStatus
  cases v.getLsbD 1 <;> cases v.getLsbD 2 <;> simp [State.clearDone, State.clearError]

/-- Everything a performed write can do to the error record: keep it, or clear it by bit 2 of STATUS. -/
theorem writeReg_error_cases (s : State) (v : Word) (r : Reg) :
    ((s.writeReg v r).err = s.err ∧ (s.writeReg v r).errcode = s.errcode ∧ (s.writeReg v r).errinfo = s.errinfo) ∨
      (r = .status ∧ v.getLsbD 2 = true ∧ (s.writeReg v r).err = false) := by
  rcases writeReg_cases s v r with written | ⟨-, written⟩ | ⟨status, written⟩ | ⟨-, written⟩ | ⟨_, written⟩ |
    ⟨_, written⟩ | ⟨_, written⟩ <;> rw [written]
  case inr.inr.inl =>
    rw [writeStatus_eq]
    cases v.getLsbD 2 with
    | false => simp
    | true => simp [status]
  all_goals exact .inl ⟨rfl, rfl, rfl⟩

/-- Everything a write to a register without a BUSY error can do. -/
theorem writeReg_unguarded_cases (s : State) (v : Word) {r : Reg} (unguarded : r.busyGuarded = false) :
    s.writeReg v r = s ∨ s.writeReg v r = s.writeCtrl v ∨ s.writeReg v r = s.writeStatus v := by
  cases r with
  | ctrl => exact .inr (.inl rfl)
  | status => exact .inr (.inr rfl)
  | cmd | key _ | nonce _ | din _ _ => cases unguarded
  | _ => exact .inl rfl

/-- While BUSY = 1 no host write touches the pending command (60_exceptions.md R266). -/
theorem hostWrite_of_busy_keeps_command {s : State} (off : Nat) (v : Word) (pending : s.busy = true) :
    (s.hostWrite off v).pending = s.pending ∧ (s.hostWrite off v).busy = true ∧
      (s.hostWrite off v).params = s.params := by
  cases guarded : (Reg.atOffset off).busyGuarded with
  | true => simp [hostWrite_of_busy_guarded v pending guarded, pending]
  | false =>
    rw [hostWrite_of_unguarded s v guarded]
    rcases writeReg_unguarded_cases s v guarded with same | ctrl | status
    · simp [same, pending]
    · simp [ctrl, State.writeCtrl, pending]
    · simp [status, writeStatus_eq, pending]

/-- A host write that clears ERR is a write to STATUS with bit 2 set. -/
theorem hostWrite_clears_err {s : State} {off : Nat} {v : Word} (error : s.err = true)
    (cleared : (s.hostWrite off v).err = false) : Reg.atOffset off = .status ∧ v.getLsbD 2 = true := by
  by_cases recorded : s.busy = true ∧ (Reg.atOffset off).busyGuarded = true
  · obtain ⟨pending, guarded⟩ := recorded
    simp [hostWrite_of_busy_guarded v pending guarded] at cleared
  · have performed : s.hostWrite off v = s.writeReg v (Reg.atOffset off) := by
      simp [State.hostWrite, recorded]
    rw [performed] at cleared
    rcases writeReg_error_cases s v (Reg.atOffset off) with ⟨kept, -, -⟩ | ⟨status, bit, -⟩
    · simp [kept, error] at cleared
    · exact ⟨status, bit⟩

/-! ## Commands -/

/-- No command's effect touches the error record. -/
theorem commandEffect_keeps_error (i : Instr) (s : State) : (commandEffect i s).err = s.err ∧
    (commandEffect i s).errcode = s.errcode ∧ (commandEffect i s).errinfo = s.errinfo := by
  cases i with
  | hupd cls src slot n => simp [commandEffect, State.hupdEffect]
  | hupd6 cls src => simp [commandEffect, State.hupd6Effect]
  | zero scope => cases scope <;> exact ⟨rfl, rfl, rfl⟩
  | _ => exact ⟨rfl, rfl, rfl⟩

/-- A command that completes, which DONE rising shows, leaves the error record. -/
theorem exec_completing_keeps_error {i : Instr} {s t : State} (ran : exec i s = .next t) (before : s.done = false)
    (after : t.done = true) : t.err = s.err ∧ t.errcode = s.errcode ∧ t.errinfo = s.errinfo := by
  rcases (exec_next_iff i s t).mp ran with ⟨e, -, rfl⟩ | ⟨-, rfl⟩
  · simp [before] at after
  · exact commandEffect_keeps_error i s

theorem exec_keeps_err {i : Instr} {s t : State} (ran : exec i s = .next t) (error : s.err = true) : t.err = true := by
  rcases (exec_next_iff i s t).mp ran with ⟨e, -, rfl⟩ | ⟨-, rfl⟩
  · rfl
  · obtain ⟨kept, -, -⟩ := commandEffect_keeps_error i s
    exact kept.trans error

end Sys2Proof.Machine

namespace Sys2Proof.Proofs
open Sys2Proof.Machine

/-- Settles O12, by whether the register at the offset is guarded: a guarded one records the BUSY error, another one can
only clear the error record. Neither touches the pending command, and a command that completes keeps the record. -/
theorem busyWriteIsRecorded : Obligations.BusyWriteIsRecorded := by
  intro s off v pending inside aligned t
  have recorded (guarded : Statements.guardedOffset off) : t = s.recordError .busy (BitVec.ofNat 32 off) :=
    hostWrite_of_busy_guarded v pending ((busyGuarded_atOffset_iff aligned inside).mpr guarded)
  obtain ⟨same_word, still_busy, same_params⟩ : t.pending = s.pending ∧ t.busy = true ∧ t.params = s.params :=
    hostWrite_of_busy_keeps_command off v pending
  refine ⟨recorded, fun unguarded => ?no_busy_error, same_word, still_busy, fun i legal =>
    ⟨engineStep_of_ok ?same_command, fun guarded not_done u ran completed => ?both_set⟩⟩
  case no_busy_error =>
    intro error
    have performed : t = s.writeReg v (Reg.atOffset off) := hostWrite_of_unguarded s v (by
      rwa [← Bool.not_eq_true, busyGuarded_atOffset_iff aligned inside])
    rw [performed] at error ⊢
    rcases writeReg_error_cases s v (Reg.atOffset off) with kept | ⟨-, -, cleared⟩
    · obtain ⟨same_err, same_code, same_info⟩ := kept
      exact ⟨same_err.symm.trans error, same_code, same_info⟩
    · simp [cleared] at error
  case same_command => rwa [same_params, same_word]
  case both_set =>
    rw [recorded guarded] at ran
    exact exec_completing_keeps_error ran not_done completed

/-- Settles O13: a STATUS write is one record update; over every step (`step_cases`) only a host write and reset can
clear ERR, and of the writes only that of STATUS with bit 2 set. -/
theorem onlyStatusWriteClearsError : Obligations.OnlyStatusWriteClearsError := by
  refine ⟨fun s v => ?status, fun s t moved error cleared => ?falls, fun s rest next => ?reset⟩
  case status => exact (hostWrite_of_unguarded s v rfl).trans (writeStatus_eq s v)
  case falls =>
    rcases step_cases moved with ⟨-, -, rfl⟩ | ⟨-, -, e, -, rfl⟩ | ⟨-, -, i, -, ran⟩ | ⟨off, rest, -, -, -, rfl⟩ |
      ⟨off, v, rest, next, aligned, -, rfl⟩ | ⟨rest, next, -⟩
    · simp [error] at cleared
    · simp at cleared
    · simp [exec_keeps_err ran error] at cleared
    · simp [State.hostRead, error] at cleared
    · obtain ⟨status, bit⟩ := hostWrite_clears_err (s := s.setInputs rest) error cleared
      obtain rfl := (atOffset_eq_status_iff aligned).mp status
      exact .inl ⟨v, rest, next, bit⟩
    · exact .inr ⟨rest, next⟩
  case reset =>
    refine ⟨(s.setInputs rest).resetPulse, ?_, rfl⟩
    rw [step, nextMove_cons next, takeInput]

end Sys2Proof.Proofs
end

section
/-! PROOFS. The encoder and the decoder against each other (30_encoding.md R91 to R105): the fields of a packed word,
the reserved bits of an encoded word, and the operands there and back. -/

namespace Sys2Proof

open Sys2Proof.Statements (matchMask opOf)

/-! ## The fields of a packed word -/

/-- A field above the low part of an appended word. -/
theorem extractLsb'_append_above {v w start len : Nat} {x : BitVec v} {y : BitVec w} {field : BitVec len}
    (above : x.extractLsb' start len = field) : (x ++ y).extractLsb' (w + start) len = field := by
  rw [BitVec.extractLsb'_append_eq_of_le (Nat.le_add_right w start), Nat.add_sub_cancel_left, above]

section Fields
variable (all hm ksel : BitVec 1) (ksz : BitVec 2) (src cls : BitVec 1) (slot : BitVec 3) (nb : BitVec 4) (op : Op)

@[simp] theorem opField_packFields : opField (packFields all hm ksel ksz src cls slot nb op) = op.byte :=
  BitVec.extractLsb'_append_eq_right

@[simp] theorem nbField_packFields : nbField (packFields all hm ksel ksz src cls slot nb op) = nb :=
  extractLsb'_append_above BitVec.extractLsb'_append_eq_right

@[simp] theorem slotField_packFields : slotField (packFields all hm ksel ksz src cls slot nb op) = slot :=
  extractLsb'_append_above (extractLsb'_append_above BitVec.extractLsb'_append_eq_right)

@[simp] theorem clsField_packFields : clsField (packFields all hm ksel ksz src cls slot nb op) = cls :=
  extractLsb'_append_above <| extractLsb'_append_above <| extractLsb'_append_above BitVec.extractLsb'_append_eq_right

@[simp] theorem srcField_packFields : srcField (packFields all hm ksel ksz src cls slot nb op) = src :=
  extractLsb'_append_above <| extractLsb'_append_above <| extractLsb'_append_above <|
    extractLsb'_append_above BitVec.extractLsb'_append_eq_right

@[simp] theorem kszField_packFields : kszField (packFields all hm ksel ksz src cls slot nb op) = ksz :=
  extractLsb'_append_above <| extractLsb'_append_above <| extractLsb'_append_above <| extractLsb'_append_above <|
    extractLsb'_append_above BitVec.extractLsb'_append_eq_right

@[simp] theorem kselField_packFields : kselField (packFields all hm ksel ksz src cls slot nb op) = ksel :=
  extractLsb'_append_above <| extractLsb'_append_above <| extractLsb'_append_above <| extractLsb'_append_above <|
    extractLsb'_append_above <| extractLsb'_append_above BitVec.extractLsb'_append_eq_right

@[simp] theorem hmField_packFields : hmField (packFields all hm ksel ksz src cls slot nb op) = hm :=
  extractLsb'_append_above <| extractLsb'_append_above <| extractLsb'_append_above <| extractLsb'_append_above <|
    extractLsb'_append_above <| extractLsb'_append_above <| extractLsb'_append_above BitVec.extractLsb'_append_eq_right

@[simp] theorem allField_packFields : allField (packFields all hm ksel ksz src cls slot nb op) = all :=
  extractLsb'_append_above <| extractLsb'_append_above <| extractLsb'_append_above <| extractLsb'_append_above <|
    extractLsb'_append_above <| extractLsb'_append_above <| extractLsb'_append_above <|
    extractLsb'_append_above BitVec.extractLsb'_append_eq_right

variable (all' hm' ksel' : BitVec 1) (ksz' : BitVec 2) (src' cls' : BitVec 1) (slot' : BitVec 3) (nb' : BitVec 4)

/-- The decoder's mask test, field by field, when the used bits are given in the layout of 30_encoding.md R91. -/
theorem fields_masked (low : Byte) :
    (0#10 ++ all ++ hm ++ ksel ++ ksz ++ src ++ cls ++ slot ++ nb ++ low) &&&
        (~~~0#10 ++ ~~~0#1 ++ ~~~0#1 ++ ~~~0#1 ++ ~~~0#2 ++ ~~~0#1 ++ ~~~0#1 ++ ~~~0#3 ++ ~~~0#4 ++ 0#8) &&&
        ~~~(0#10 ++ all' ++ hm' ++ ksel' ++ ksz' ++ src' ++ cls' ++ slot' ++ nb' ++ 0#8) =
      0#10 ++ (all &&& ~~~all') ++ (hm &&& ~~~hm') ++ (ksel &&& ~~~ksel') ++ (ksz &&& ~~~ksz') ++ (src &&& ~~~src') ++
        (cls &&& ~~~cls') ++ (slot &&& ~~~slot') ++ (nb &&& ~~~nb') ++ 0#8 := by
  simp only [BitVec.not_append, BitVec.and_append, BitVec.not_zero, BitVec.and_allOnes, BitVec.and_zero]

end Fields

/-- A word is its fields (30_encoding.md R91). -/
theorem word_eq_fields (w : Word) : w = w.extractLsb' 22 10 ++ allField w ++ hmField w ++ kselField w ++ kszField w ++
    srcField w ++ clsField w ++ slotField w ++ nbField w ++ opField w := by
  have glue (lo len : Nat) {len' : Nat} :
      w.extractLsb' (lo + len) len' ++ w.extractLsb' lo len = w.extractLsb' lo (len' + len) :=
    BitVec.extractLsb'_append_extractLsb'_eq_extractLsb' rfl
  have whole : w.extractLsb' 22 10 ++ allField w ++ hmField w ++ kselField w ++ kszField w ++ srcField w ++
      clsField w ++ slotField w ++ nbField w ++ opField w = w.extractLsb' 0 32 := by
    simp only [allField, hmField, kselField, kszField, srcField, clsField, slotField, nbField, opField, glue 21 1,
      glue 20 1, glue 19 1, glue 17 2, glue 16 1, glue 15 1, glue 12 3, glue 8 4, glue 0 8]
  exact (whole.trans BitVec.extractLsb'_eq_self).symm

/-! ## Reserved bits -/

/-- The used bits of an opcode are whole fields (30_encoding.md R101), given here by their masks. -/
theorem not_hasReservedBit_packFields {op : Op} {all hm ksel : BitVec 1} {ksz : BitVec 2} {src cls : BitVec 1}
    {slot : BitVec 3} {nb : BitVec 4} (all' hm' ksel' : BitVec 1) (ksz' : BitVec 2) (src' cls' : BitVec 1)
    (slot' : BitVec 3) (nb' : BitVec 4)
    (layout : op.usedBits = 0#10 ++ all' ++ hm' ++ ksel' ++ ksz' ++ src' ++ cls' ++ slot' ++ nb' ++ 0#8)
    (clean : 0#10 ++ (all &&& ~~~all') ++ (hm &&& ~~~hm') ++ (ksel &&& ~~~ksel') ++ (ksz &&& ~~~ksz') ++
        (src &&& ~~~src') ++ (cls &&& ~~~cls') ++ (slot &&& ~~~slot') ++ (nb &&& ~~~nb') ++ 0#8 = 0) :
    ¬HasReservedBit op (packFields all hm ksel ksz src cls slot nb op) := by
  rw [← reservedMask_ne_zero_iff, not_not, layout]
  exact (fields_masked ..).trans clean

theorem not_hasReservedBit_encode (i : Instr) : ¬HasReservedBit (opOf i) (encode i) := by
  cases i with
  | kexp ksz => exact not_hasReservedBit_packFields 0 0 0 3 0 0 0 0 rfl (by simp)
  | aese ksel slot => exact not_hasReservedBit_packFields 0 0 1 0 0 0 7 0 rfl (by simp)
  | hkey slot => exact not_hasReservedBit_packFields 0 0 0 0 0 0 7 0 rfl (by simp)
  | hinit hm => exact not_hasReservedBit_packFields 0 1 0 0 0 0 0 0 rfl (by simp)
  | hupd cls src slot n => exact not_hasReservedBit_packFields 0 0 0 0 1 1 7 15 rfl (by simp)
  | hupd6 cls src => exact not_hasReservedBit_packFields 0 0 0 0 1 1 0 0 rfl (by simp)
  | ctri src => exact not_hasReservedBit_packFields 0 0 0 0 1 0 0 0 rfl (by simp)
  | ctrx1 slot n => exact not_hasReservedBit_packFields 0 0 0 0 0 0 7 15 rfl (by simp)
  | zero scope => exact not_hasReservedBit_packFields 1 0 0 0 0 0 0 0 rfl (by simp)
  | nop | kdf | hlen | tagf | ctrx4 | ctrx8 => exact not_hasReservedBit_packFields 0 0 0 0 0 0 0 0 rfl rfl

/-- A field among the bits an opcode does not use is 0 in a word without reserved bits. -/
theorem field_eq_zero_of_clean {op : Op} {w : Word} (clean : ¬HasReservedBit op w) (lo len : Nat) (high : 8 ≤ lo)
    (inside : lo + len ≤ 32) (unused : op.usedBits.extractLsb' lo len = 0) : w.extractLsb' lo len = 0 := by
  apply BitVec.eq_of_getLsbD_eq
  intro b hb
  have unused_bit := congrArg (BitVec.getLsbD · b) unused
  simp only [BitVec.getLsbD_extractLsb', hb, decide_true, Bool.true_and, BitVec.ofNat_eq_ofNat,
    BitVec.getLsbD_zero] at unused_bit ⊢
  by_contra one
  exact clean ⟨lo + b, by omega, by omega, by simpa using one, unused_bit⟩

/-- A legal word is the packing of its own fields: bits 31:22 belong to no opcode. -/
theorem eq_packFields_of_clean {op : Op} {w : Word} (row : op.byte = opField w) (clean : ¬HasReservedBit op w) :
    w = packFields (allField w) (hmField w) (kselField w) (kszField w) (srcField w) (clsField w) (slotField w)
      (nbField w) op := by
  have top : w.extractLsb' 22 10 = 0 :=
    field_eq_zero_of_clean clean 22 10 (by decide) (by decide) (by cases op <;> decide)
  have fields := word_eq_fields w
  rwa [top, ← row] at fields

/-! ## Operands there and back (30_encoding.md R93 to R100) -/

@[simp] theorem HashClass.ofBit_bit (c : HashClass) : HashClass.ofBit c.bit = c := by cases c <;> rfl
@[simp] theorem DataSource.ofBit_bit (c : DataSource) : DataSource.ofBit c.bit = c := by cases c <;> rfl
@[simp] theorem SeedSource.ofBit_bit (c : SeedSource) : SeedSource.ofBit c.bit = c := by cases c <;> rfl
@[simp] theorem KeySelect.ofBit_bit (c : KeySelect) : KeySelect.ofBit c.bit = c := by cases c <;> rfl
@[simp] theorem HashMode.ofBit_bit (c : HashMode) : HashMode.ofBit c.bit = c := by cases c <;> rfl
@[simp] theorem ZeroScope.ofBit_bit (c : ZeroScope) : ZeroScope.ofBit c.bit = c := by cases c <;> rfl

@[simp] theorem HashClass.bit_ofBit (b : BitVec 1) : (HashClass.ofBit b).bit = b := by revert b; decide
@[simp] theorem DataSource.bit_ofBit (b : BitVec 1) : (DataSource.ofBit b).bit = b := by revert b; decide
@[simp] theorem SeedSource.bit_ofBit (b : BitVec 1) : (SeedSource.ofBit b).bit = b := by revert b; decide
@[simp] theorem KeySelect.bit_ofBit (b : BitVec 1) : (KeySelect.ofBit b).bit = b := by revert b; decide
@[simp] theorem HashMode.bit_ofBit (b : BitVec 1) : (HashMode.ofBit b).bit = b := by revert b; decide
@[simp] theorem ZeroScope.bit_ofBit (b : BitVec 1) : (ZeroScope.ofBit b).bit = b := by revert b; decide

@[simp] theorem KeySize.ofField_bit (ksz : KeySize) : KeySize.ofField (0#1 ++ ksz.bit) = some ksz := by
  cases ksz <;> rfl

theorem KeySize.bit_of_ofField {k : BitVec 2} {ksz : KeySize} (named : KeySize.ofField k = some ksz) :
    0#1 ++ ksz.bit = k := by
  revert k ksz
  decide

@[simp] theorem slotIndex_slotBits (slot : Fin 8) : slotIndex (slotBits slot) = slot := by revert slot; decide
@[simp] theorem slotBits_slotIndex (slot : BitVec 3) : slotBits (slotIndex slot) = slot := by revert slot; decide

theorem byteCount_nbOfCount {n : Nat} (encodable : byteCountOk n = true) : byteCount (nbOfCount n) = n := by
  obtain ⟨least, most⟩ : 1 ≤ n ∧ n ≤ 16 := by simpa [byteCountOk] using encodable
  interval_cases n <;> rfl

@[simp] theorem nbOfCount_byteCount (nb : BitVec 4) : nbOfCount (byteCount nb) = nb := by revert nb; decide
@[simp] theorem byteCountOk_byteCount (nb : BitVec 4) : byteCountOk (byteCount nb) = true := by revert nb; decide

/-! ## The decoder, inverted -/

/-- Everything that makes a word decode: its row exists, no reserved bit is 1, and the operands are those of the row. -/
theorem decode_eq_ok_iff (pipe : Bool) (w : Word) (i : Instr) :
    decode pipe w = .ok i ↔ ∃ op, op.byte = opField w ∧ (op.pipeOnly = true → pipe = true) ∧ ¬HasReservedBit op w ∧
      decodeOperands w op = .ok i := by
  constructor
  · intro legal
    obtain ⟨op, row⟩ : ∃ op : Op, op.byte = opField w := by
      rw [← mem_assignedOps_iff]
      by_contra unassigned
      simp [decode_of_unassigned pipe unassigned] at legal
    have present : op.pipeOnly = true → pipe = true := by
      intro multi
      by_contra absent
      rw [Bool.not_eq_true] at absent
      simp [absent, decode_of_pipeOnly row multi] at legal
    have clean : ¬HasReservedBit op w := by
      intro reserved
      simp [decode_of_reserved row present reserved] at legal
    exact ⟨op, row, present, clean, (decode_of_not_reserved row present clean).symm.trans legal⟩
  · rintro ⟨op, row, present, clean, operands⟩
    exact (decode_of_not_reserved row present clean).trans operands

/-- The operands the decoder reads are those of the word's row, and byte counts are encodable. -/
theorem decodeOperands_row {w : Word} {op : Op} {i : Instr} (operands : decodeOperands w op = .ok i) :
    opOf i = op ∧ i.countsOk = true := by
  cases op with
  | kexp =>
    rw [decodeOperands] at operands
    split at operands <;> cases operands
    exact ⟨rfl, rfl⟩
  | hupd | ctrx1 =>
    cases operands
    exact ⟨rfl, byteCountOk_byteCount _⟩
  | _ =>
    cases operands
    exact ⟨rfl, rfl⟩

theorem opField_encode (i : Instr) : opField (encode i) = (opOf i).byte := by
  cases i <;> exact opField_packFields ..

theorem pipeOnly_opOf (i : Instr) : (opOf i).pipeOnly = i.needsPipe := by cases i <;> rfl

theorem wellFormed_iff (pipe : Bool) (i : Instr) :
    i.wellFormed pipe = true ↔ ((opOf i).pipeOnly = true → pipe = true) ∧ i.countsOk = true := by
  rw [pipeOnly_opOf, Instr.wellFormed]
  cases i.needsPipe <;> simp

/-- The operands of an encoded instruction are its own. -/
theorem decodeOperands_encode {i : Instr} (encodable : i.countsOk = true) :
    decodeOperands (encode i) (opOf i) = .ok i := by
  cases i with
  | hupd cls src slot n => simp [encode, decodeOperands, opOf, byteCount_nbOfCount encodable]
  | ctrx1 slot n => simp [encode, decodeOperands, opOf, byteCount_nbOfCount encodable]
  | _ => simp [encode, decodeOperands, opOf]

/-- The fields a row does not use are 0 in a legal word. -/
theorem unused_fields_eq_zero {op : Op} {w : Word} (clean : ¬HasReservedBit op w) :
    (op.usedBits.extractLsb' 21 1 = 0 → allField w = 0) ∧ (op.usedBits.extractLsb' 20 1 = 0 → hmField w = 0) ∧
    (op.usedBits.extractLsb' 19 1 = 0 → kselField w = 0) ∧ (op.usedBits.extractLsb' 17 2 = 0 → kszField w = 0) ∧
    (op.usedBits.extractLsb' 16 1 = 0 → srcField w = 0) ∧ (op.usedBits.extractLsb' 15 1 = 0 → clsField w = 0) ∧
    (op.usedBits.extractLsb' 12 3 = 0 → slotField w = 0) ∧ (op.usedBits.extractLsb' 8 4 = 0 → nbField w = 0) := by
  refine ⟨?_, ?_, ?_, ?_, ?_, ?_, ?_, ?_⟩ <;> exact field_eq_zero_of_clean clean _ _ (by decide) (by decide)

/-- A legal word is the encoding of its operands. -/
theorem encode_of_decodeOperands {w : Word} {op : Op} {i : Instr} (row : op.byte = opField w)
    (clean : ¬HasReservedBit op w) (operands : decodeOperands w op = .ok i) : encode i = w := by
  obtain ⟨all, hm, ksel, ksz, src, cls, slot, nb⟩ := unused_fields_eq_zero clean
  rw [eq_packFields_of_clean row clean]
  cases op with
  | kexp =>
    rw [decodeOperands] at operands
    split at operands <;> cases operands
    rename_i size named
    rw [encode, KeySize.bit_of_ofField named, all rfl, hm rfl, ksel rfl, src rfl, cls rfl, slot rfl, nb rfl]
  | _ =>
    cases operands
    simp (disch := decide) [encode, all, hm, ksel, ksz, src, cls, slot, nb]

/-! ## The rows of the match and mask table (30_encoding.md R101) -/

theorem eq_of_mem_matchMask {op : Op} {m k : Word} (row : (op, m, k) ∈ matchMask) :
    m = op.byte.setWidth 32 ∧ k = ~~~freeBits op := by
  have every_row : ∀ r ∈ matchMask, r.2.1 = r.1.byte.setWidth 32 ∧ r.2.2 = ~~~freeBits r.1 := by decide
  exact every_row _ row

section Matching
variable {op : Op} {w : Word} (matching : w &&& ~~~freeBits op = op.byte.setWidth 32)
include matching

/-- Where a matching word sets a bit that is no bit of the opcode byte, its row leaves the bit free. -/
theorem free_of_matching {b : Nat} (high : 8 ≤ b) (inside : b < 32) (one : w.getLsbD b = true) :
    (freeBits op).getLsbD b = true := by
  have bit := congrArg (BitVec.getLsbD · b) matching
  simpa [one, inside, BitVec.getLsbD_of_ge op.byte b high] using bit

theorem row_of_matching : op.byte = opField w := by
  apply BitVec.eq_of_getLsbD_eq
  intro b hb
  have bit := congrArg (BitVec.getLsbD · b) matching
  simp only [BitVec.getLsbD_and, BitVec.getLsbD_not, BitVec.getLsbD_setWidth, getLsbD_freeBits_of_low op hb] at bit
  simpa [opField, hb, show b < 32 by omega] using bit.symm

theorem clean_of_matching : ¬HasReservedBit op w := by
  rintro ⟨b, high, inside, one, unused⟩
  have free_is_used : freeBits op &&& op.usedBits = freeBits op := by cases op <;> decide
  have bit := congrArg (BitVec.getLsbD · b) free_is_used
  simp [free_of_matching matching high inside one, unused] at bit

theorem good_size_of_matching : ¬BadKeySize op w := by
  rintro ⟨rfl, bad⟩
  have high_bit (k : BitVec 2) : k = 2 ∨ k = 3 → k.getLsbD 1 = true := by
    revert k
    decide
  have one : w.getLsbD 18 = true := by simpa [kszField] using high_bit _ bad
  exact absurd (free_of_matching matching (by decide) (by decide) one) (by decide)

end Matching

end Sys2Proof

namespace Sys2Proof.Proofs

/-- Settles O1: the encoded word is in the instruction's row, has no reserved bit, and its operands are read back. -/
theorem decodeOfEncode : Obligations.DecodeOfEncode := by
  intro pipe i wf
  obtain ⟨present, encodable⟩ := (wellFormed_iff pipe i).mp wf
  exact (decode_eq_ok_iff pipe _ i).mpr
    ⟨Statements.opOf i, (opField_encode i).symm, present, not_hasReservedBit_encode i, decodeOperands_encode encodable⟩

/-- Settles O2: a word that decodes has no bit outside the fields of its row, so it is the packing of its operands. -/
theorem encodeOfDecode : Obligations.EncodeOfDecode := by
  intro pipe w i legal
  obtain ⟨op, row, present, clean, operands⟩ := (decode_eq_ok_iff pipe w i).mp legal
  obtain ⟨rfl, encodable⟩ := decodeOperands_row operands
  exact ⟨encode_of_decodeOperands row clean operands, (wellFormed_iff pipe i).mpr ⟨present, encodable⟩⟩

/-- Settles O3: a word matches its row exactly when its opcode is the row's, no reserved bit is 1 and KSZ names a
size. -/
theorem decodeIsMatchMask : Obligations.DecodeIsMatchMask := by
  intro pipe w op m k listed
  obtain ⟨rfl, rfl⟩ := eq_of_mem_matchMask listed
  constructor
  · rintro ⟨i, legal, rfl⟩
    obtain ⟨op, row, present, clean, operands⟩ := (decode_eq_ok_iff pipe w i).mp legal
    obtain ⟨rfl, -⟩ := decodeOperands_row operands
    have good_size : ¬BadKeySize (Statements.opOf i) w := by
      rintro ⟨is_kexp, bad⟩
      simp [is_kexp, decodeOperands_kexp_of_badKeySize bad] at operands
    exact ⟨present, and_mask_eq_match row clean good_size⟩
  · rintro ⟨present, matching⟩
    obtain ⟨i, operands⟩ := decodeOperands_answers (good_size_of_matching matching)
    have legal := (decode_eq_ok_iff pipe w i).mpr
      ⟨op, row_of_matching matching, present, clean_of_matching matching, operands⟩
    exact ⟨i, legal, (decodeOperands_row operands).1⟩

/-- Settles O5, by evaluating the decoder on each word. -/
theorem sampleWordsDecode : Obligations.SampleWordsDecode := by
  unfold Obligations.SampleWordsDecode
  decide

end Sys2Proof.Proofs
end

section
/-! PROOFS. The results of NOP, ZERO, KEXP, AESE, HKEY and HINIT (40_aes.md R128, R129; 41_uhash.md R157 to R160;
45_control.md R240, R241). -/

namespace Sys2Proof.Machine

/-- A command without checks completes in every state. -/
theorem exec_of_unchecked {i : Instr} {s : State} (unchecked : commandChecks i s = []) :
    exec i s = .next (commandEffect i s).complete :=
  exec_of_passing (by rw [unchecked, firstError_nil])

/-! ## AESE's check (40_aes.md R129) -/

theorem exec_aese_of_invalid {s : State} {ksel : KeySelect} (slot : Fin 8) (invalid : s.scheduleInvalid ksel = true) :
    exec (.aese ksel slot) s = .next (s.reject (aeseKeyError ksel)) := by
  apply exec_of_failing
  simp [commandChecks, State.aeseChecks, firstError_cons, invalid]

theorem exec_aese_of_valid {s : State} {ksel : KeySelect} (slot : Fin 8) (valid : s.scheduleInvalid ksel = false) :
    exec (.aese ksel slot) s = .next (s.aeseEffect ksel slot).complete := by
  apply exec_of_passing
  simp [commandChecks, State.aeseChecks, firstError_cons, valid]

/-! ## HINIT's check, and the table it leaves (41_uhash.md R157, R160) -/

theorem exec_hinit_of_no_key {s : State} (hm : HashMode) (none_loaded : s.hv = false) :
    exec (.hinit hm) s = .next (s.reject .nohkey) := by
  apply exec_of_failing
  simp [commandChecks, State.hinitChecks, firstError_cons, none_loaded]

theorem exec_hinit_of_key {s : State} (hm : HashMode) (loaded : s.hv = true) :
    exec (.hinit hm) s = .next (s.hinitEffect hm).complete := by
  apply exec_of_passing
  simp [commandChecks, State.hinitChecks, firstError_cons, loaded]

theorem getElem_hashTable (m : HashMode) (h : Block) {k : Nat} (inside : k < 6) :
    (hashTable m h)[k] = hashPower m h k := by
  interval_cases k <;> rfl

theorem initTable_of_pipe {s : State} (hm : HashMode) (pipe : s.params.pipe = true) :
    s.initTable hm = hashTable hm s.h := by
  simp [State.initTable, pipe]

theorem initTable_of_no_pipe {s : State} (hm : HashMode) (no_pipe : s.params.pipe = false) :
    s.initTable hm = Vector.replicate 6 0 := by
  simp [State.initTable, no_pipe]

end Sys2Proof.Machine

namespace Sys2Proof.Proofs
open Sys2Proof.Machine

/-- Settles O58: NOP has no check and no effect. -/
theorem nopResult : Obligations.NopResult := fun _ => exec_of_unchecked rfl

/-- Settles O36: KEXP has no check, and its effect is the three clear operations and the new schedule. -/
theorem kexpResult : Obligations.KexpResult := fun _ _ => exec_of_unchecked rfl

/-- Settles O44: HKEY has no check, and its effect is HashClear and the new hash key. -/
theorem hkeyResult : Obligations.HkeyResult := fun _ _ => exec_of_unchecked rfl

/-- Settles O59: ZERO has no check, and its effect is the clear operations of its scope. -/
theorem zeroResult : Obligations.ZeroResult := fun _ => ⟨exec_of_unchecked rfl, exec_of_unchecked rfl⟩

/-- Settles O37, by AESE's one check on the schedule KSEL names. -/
theorem aeseResult : Obligations.AeseResult := by
  intro slot s
  refine ⟨fun keyed => ?mrk, fun derived => ?erk, fun unkeyed => ?nokey, fun underived => ?nosubkey⟩
  case mrk => exact exec_aese_of_valid slot (by simp [State.scheduleInvalid, keyed])
  case erk => exact exec_aese_of_valid slot (by simp [State.scheduleInvalid, derived])
  case nokey => exact exec_aese_of_invalid slot (by simp [State.scheduleInvalid, unkeyed])
  case nosubkey => exact exec_aese_of_invalid slot (by simp [State.scheduleInvalid, underived])

/-- Settles O45, by HINIT's one check: the table of the completed state is `initTable`, the powers of H when
PIPE = 1. -/
theorem hinitResult : Obligations.HinitResult := by
  intro hm s
  refine ⟨exec_hinit_of_no_key hm, fun loaded =>
    ⟨(s.hinitEffect hm).complete, exec_hinit_of_key hm loaded, fun pipe => ?powers, fun no_pipe => ?no_table, rfl⟩⟩
  case powers =>
    have table : (s.hinitEffect hm).complete.htab = hashTable hm s.h := initTable_of_pipe hm pipe
    refine ⟨by rw [table]; rfl, fun k hk => ?_⟩
    simp only [table, getElem_hashTable _ _ (show k + 1 < 6 by omega), getElem_hashTable _ _ (show k < 6 by omega),
      hashPower]
  case no_table => exact initTable_of_no_pipe hm no_pipe

end Sys2Proof.Proofs
end

section
/-! PROOFS. The absorbing commands HUPD, HUPD6 and HLEN (41_uhash.md R161 to R164): their checks in order, their
results, and HUPD6 as six HUPDs. -/

namespace Sys2Proof.Machine

/-! ## The checks, in words -/

theorem hashOrderBad_aad_iff (s : State) : s.hashOrderBad .aad = true ↔ s.ph ≠ .aad ∨ s.apart = true := by
  cases phase : s.ph <;> simp [State.hashOrderBad, phase]

theorem hashOrderBad_message_iff (s : State) :
    s.hashOrderBad .message = true ↔ s.ph = .idle ∨ s.ph = .final ∨ s.mpart = true := by
  simp [State.hashOrderBad, or_assoc]

theorem noOpenSession_iff (s : State) : s.noOpenSession = true ↔ s.ph = .idle ∨ s.ph = .final := by
  simp [State.noOpenSession]

theorem hashOrderBad_aad_of_open {s : State} (phase : s.ph = .aad) (still_open : s.apart = false) :
    s.hashOrderBad .aad = false := by
  rw [← Bool.not_eq_true, hashOrderBad_aad_iff]
  simp [phase, still_open]

theorem hashOrderBad_message_of_open {s : State} (phase : s.ph = .aad ∨ s.ph = .msg) (still_open : s.mpart = false) :
    s.hashOrderBad .message = false := by
  rw [← Bool.not_eq_true, hashOrderBad_message_iff]
  rcases phase with phase | phase <;> simp [phase, still_open]

/-- n more bytes of the class can be absorbed: the phase is right, the class is open and MAX_LEN_BYTES allows them
(41_uhash.md R161, R163). -/
def State.CanAbsorb (s : State) (n : Nat) : HashClass → Prop
  | .aad => s.ph = .aad ∧ s.apart = false ∧ s.alen.toNat + n ≤ s.params.maxLenBytes
  | .message => (s.ph = .aad ∨ s.ph = .msg) ∧ s.mpart = false ∧ s.mlen.toNat + n ≤ s.params.maxLenBytes

theorem canAbsorb_iff (s : State) (n : Nat) (cls : HashClass) :
    s.CanAbsorb n cls ↔ s.hashOrderBad cls = false ∧ s.lengthBad n cls = false := by
  cases cls with
  | aad =>
    rw [← Bool.not_eq_true, hashOrderBad_aad_iff]
    simp [State.CanAbsorb, State.lengthBad, and_assoc]
  | message =>
    rw [← Bool.not_eq_true, hashOrderBad_message_iff]
    cases phase : s.ph <;> simp [State.CanAbsorb, State.lengthBad, phase]

/-! ## HUPD -/

section Hupd
variable {s : State} {cls : HashClass} (src : DataSource) (slot : Fin 8) {n : Nat}

theorem exec_hupd_of_order_bad (bad : s.hashOrderBad cls = true) :
    exec (.hupd cls src slot n) s = .next (s.reject .seq) := by
  apply exec_of_failing
  simp [commandChecks, State.hupdChecks, firstError_cons, bad]

theorem exec_hupd_of_length_bad (good : s.hashOrderBad cls = false) (bad : s.lengthBad n cls = true) :
    exec (.hupd cls src slot n) s = .next (s.reject .len) := by
  apply exec_of_failing
  simp [commandChecks, State.hupdChecks, firstError_cons, good, bad]

theorem exec_hupd_of_canAbsorb (legal : s.CanAbsorb n cls) :
    exec (.hupd cls src slot n) s = .next (s.hupdEffect cls src slot n).complete := by
  obtain ⟨order, length⟩ := (canAbsorb_iff s n cls).mp legal
  apply exec_of_passing
  simp [commandChecks, State.hupdChecks, firstError_cons, order, length]

end Hupd

/-! ## HUPD6 -/

section Hupd6
variable {s : State} {cls : HashClass} (src : DataSource)

theorem exec_hupd6_of_no_pipe (no_pipe : s.params.pipe = false) :
    exec (.hupd6 cls src) s = .next (s.reject .illop) := by
  apply exec_of_failing
  simp [commandChecks, State.hupd6Checks, firstError_cons, State.pipeAbsent, no_pipe]

variable (pipe : s.params.pipe = true)
include pipe

theorem exec_hupd6_of_order_bad (bad : s.hashOrderBad cls = true) :
    exec (.hupd6 cls src) s = .next (s.reject .seq) := by
  apply exec_of_failing
  simp [commandChecks, State.hupd6Checks, firstError_cons, State.pipeAbsent, pipe, bad]

theorem exec_hupd6_of_length_bad (good : s.hashOrderBad cls = false) (bad : s.lengthBad 96 cls = true) :
    exec (.hupd6 cls src) s = .next (s.reject .len) := by
  apply exec_of_failing
  simp [commandChecks, State.hupd6Checks, firstError_cons, State.pipeAbsent, pipe, good, bad]

theorem exec_hupd6_of_canAbsorb (legal : s.CanAbsorb 96 cls) :
    exec (.hupd6 cls src) s = .next (s.hupd6Effect cls src).complete := by
  obtain ⟨order, length⟩ := (canAbsorb_iff s 96 cls).mp legal
  apply exec_of_passing
  simp [commandChecks, State.hupd6Checks, firstError_cons, State.pipeAbsent, pipe, order, length]

end Hupd6

/-! ## Absorbing whole blocks one by one -/

theorem hashFold_append (m : HashMode) (h s : Block) (xs ys : List Block) :
    hashFold m h s (xs ++ ys) = hashFold m h (hashFold m h s xs) ys := by
  induction xs generalizing s with
  | nil => rfl
  | cons x xs ih => exact ih _

theorem hashFold_eq_foldl (m : HashMode) (h s : Block) (xs : List Block) :
    hashFold m h s xs = xs.foldl (hashUpd m h) s := by
  induction xs generalizing s with
  | nil => rfl
  | cons x xs ih => exact ih _

/-- The completed state after absorbing whole blocks of a class (41_uhash.md R156, R161). -/
def State.absorb (s : State) (cls : HashClass) (xs : List Block) : State :=
  ({ s with acc := hashFold s.hmode s.h s.acc xs }.countBytes (16 * xs.length) cls).complete

theorem absorb_absorb (s : State) (cls : HashClass) (xs ys : List Block) :
    (s.absorb cls xs).absorb cls ys = s.absorb cls (xs ++ ys) := by
  cases cls <;> simp [State.absorb, State.complete, hashFold_append, Nat.mul_add, BitVec.ofNat_add, BitVec.add_assoc]

theorem sourceSlots_absorb (s : State) (cls : HashClass) (xs : List Block) (src : DataSource) :
    (s.absorb cls xs).sourceSlots src = s.sourceSlots src := by
  cases cls <;> cases src <;> rfl

/-- Blocks absorbed earlier leave room for those MAX_LEN_BYTES allowed beyond them. -/
theorem State.CanAbsorb.after_absorb {s : State} {cls : HashClass} {xs : List Block} {n : Nat}
    (legal : s.CanAbsorb (16 * xs.length + n) cls) : (s.absorb cls xs).CanAbsorb n cls := by
  have room (count : BitVec 64) (fits : count.toNat + (16 * xs.length + n) ≤ s.params.maxLenBytes) :
      (count + BitVec.ofNat 64 (16 * xs.length)).toNat + n ≤ s.params.maxLenBytes := by
    rw [BitVec.toNat_add, BitVec.toNat_ofNat]
    omega
  cases cls with
  | aad =>
    obtain ⟨phase, still_open, fits⟩ := legal
    exact ⟨phase, still_open, room _ fits⟩
  | message =>
    obtain ⟨-, still_open, fits⟩ := legal
    exact ⟨.inr rfl, still_open, room _ fits⟩

/-- A HUPD of a whole block absorbs its slot. -/
theorem exec_hupd_full {s : State} {cls : HashClass} (src : DataSource) (slot : Fin 8) (legal : s.CanAbsorb 16 cls) :
    exec (.hupd cls src slot 16) s = .next (s.absorb cls [(s.sourceSlots src)[slot]]) := by
  rw [exec_hupd_of_canAbsorb src slot legal]
  cases cls <;> simp [State.hupdEffect, State.hashBlock, State.absorb, hashFold]

theorem State.CanAbsorb.mono {s : State} {cls : HashClass} {n m : Nat} (legal : s.CanAbsorb n cls) (fewer : m ≤ n) :
    s.CanAbsorb m cls := by
  cases cls with
  | aad =>
    obtain ⟨phase, still_open, fits⟩ := legal
    exact ⟨phase, still_open, by omega⟩
  | message =>
    obtain ⟨phase, still_open, fits⟩ := legal
    exact ⟨phase, still_open, by omega⟩

/-- HUPDs of whole blocks, after some that went before, absorb their slots in order. -/
theorem execAll_hupd_full {s : State} {cls : HashClass} (src : DataSource) (slots : List (Fin 8)) (xs : List Block)
    (legal : s.CanAbsorb (16 * (xs.length + slots.length)) cls) :
    execAll (slots.map fun k => .hupd cls src k 16) (s.absorb cls xs) =
      .next (s.absorb cls (xs ++ slots.map fun k => (s.sourceSlots src)[k])) := by
  induction slots generalizing xs with
  | nil => rw [List.map_nil, List.map_nil, List.append_nil, execAll_nil]
  | cons slot slots ih =>
    have next : (s.absorb cls xs).CanAbsorb 16 cls :=
      State.CanAbsorb.after_absorb (legal.mono (by rw [List.length_cons]; omega))
    have one := exec_hupd_full src slot next
    rw [absorb_absorb, sourceSlots_absorb] at one
    rw [List.map_cons, execAll_cons_next one, ih, List.append_assoc, List.map_cons, List.singleton_append]
    exact legal.mono (by simp; omega)

theorem hupd6Effect_complete (s : State) (cls : HashClass) (src : DataSource) :
    (s.hupd6Effect cls src).complete = s.absorb cls (s.sixBlocks src) := rfl

/-! ## HLEN -/

theorem exec_hlen_of_no_session {s : State} (none_open : s.noOpenSession = true) :
    exec .hlen s = .next (s.reject .seq) := by
  apply exec_of_failing
  simp [commandChecks, State.hlenChecks, firstError_cons, none_open]

theorem exec_hlen_of_session {s : State} (is_open : s.noOpenSession = false) :
    exec .hlen s = .next s.hlenEffect.complete := by
  apply exec_of_passing
  simp [commandChecks, State.hlenChecks, firstError_cons, is_open]

/-- Byte b of the 64-bit integer m, least significant first. -/
theorem byteAt_ofNat64 (m : Nat) {b : Nat} (inside : b < 8) :
    byteAt (BitVec.ofNat 64 m) b = BitVec.ofNat 8 (m / 256 ^ b) := by
  apply BitVec.eq_of_getLsbD_eq
  intro k hk
  rw [show 256 ^ b = 2 ^ (8 * b) by rw [Nat.pow_mul], byteAt, BitVec.getLsbD_extractLsb', BitVec.getLsbD_ofNat,
    BitVec.getLsbD_ofNat, Nat.testBit_div_two_pow, Nat.add_comm k]
  simp [hk, show 8 * b + k < 64 by omega]

theorem byteAt_bitCount (count : BitVec 64) {b : Nat} (inside : b < 8) :
    byteAt (8 * count) b = BitVec.ofNat 8 (8 * count.toNat / 256 ^ b) := by
  rw [← byteAt_ofNat64 _ inside, BitVec.ofNat_mul, BitVec.ofNat_toNat, BitVec.setWidth_eq]
  rfl

theorem byteAt_bigEndian64 (v : BitVec 64) {b : Nat} (inside : b < 8) :
    byteAt (bigEndian64 v) b = byteAt v (7 - b) := by
  match b, inside with
  | 0, _ | 1, _ | 2, _ | 3, _ | 4, _ | 5, _ | 6, _ | 7, _ => simp [bigEndian64, byteAt_self]

theorem byteAt_halves_low (x y : BitVec 64) {b : Nat} (inside : b < 8) : byteAt (x ++ y) b = byteAt y b :=
  BitVec.extractLsb'_append_eq_of_add_le (by omega)

theorem byteAt_halves_high (x y : BitVec 64) (b : Nat) : byteAt (x ++ y) (8 + b) = byteAt x b := by
  rw [byteAt, Nat.mul_add]
  exact extractLsb'_append_above rfl

theorem byteAt_lengthBlock_polyval {s : State} (mode : s.hmode = .polyval) {b : Nat} (inside : b < 8) :
    byteAt s.lengthBlock b = BitVec.ofNat 8 (8 * s.alen.toNat / 256 ^ b) ∧
      byteAt s.lengthBlock (8 + b) = BitVec.ofNat 8 (8 * s.mlen.toNat / 256 ^ b) := by
  simp only [State.lengthBlock, mode, byteAt_halves_low _ _ inside, byteAt_halves_high, byteAt_bitCount _ inside,
    and_self]

theorem byteAt_lengthBlock_ghash {s : State} (mode : s.hmode = .ghash) {b : Nat} (inside : b < 8) :
    byteAt s.lengthBlock b = BitVec.ofNat 8 (8 * s.alen.toNat / 256 ^ (7 - b)) ∧
      byteAt s.lengthBlock (8 + b) = BitVec.ofNat 8 (8 * s.mlen.toNat / 256 ^ (7 - b)) := by
  simp only [State.lengthBlock, mode, byteAt_halves_low _ _ inside, byteAt_halves_high, byteAt_bigEndian64 _ inside,
    byteAt_bitCount _ (show 7 - b < 8 by omega), and_self]

end Sys2Proof.Machine

namespace Sys2Proof.Proofs
open Sys2Proof.Machine

/-- Settles O46: where the class can absorb n bytes HUPD completes, and its block is the zero-padded source slot. -/
theorem hupdResult : Obligations.HupdResult := by
  intro cls src slot n s _ _ aad message
  have legal : s.CanAbsorb n cls := by
    cases cls with
    | aad => exact aad rfl
    | message => exact message rfl
  refine ⟨_, s.hashBlock src slot n, exec_hupd_of_canAbsorb src slot legal, fun b inside => ?block, ?acc,
    ?aad_state, ?message_state⟩
  case block =>
    rw [State.hashBlock, byteAt_firstBytes _ _ inside]
    cases src <;> rfl
  case acc => simp [State.hupdEffect]
  case aad_state =>
    rintro rfl
    obtain ⟨-, still_open, -⟩ := aad rfl
    simp [State.hupdEffect, State.complete, still_open]
  case message_state =>
    rintro rfl
    obtain ⟨-, still_open, -⟩ := message rfl
    simp [State.hupdEffect, State.complete, still_open]

/-- Settles O47, by HUPD's two checks in order. -/
theorem hupdErrors : Obligations.HupdErrors := by
  intro src slot n s
  refine ⟨fun bad => ?aad_seq, fun phase still_open long => ?aad_len, fun bad => ?message_seq,
    fun phase still_open long => ?message_len⟩
  case aad_seq => exact exec_hupd_of_order_bad src slot ((hashOrderBad_aad_iff s).mpr bad)
  case message_seq => exact exec_hupd_of_order_bad src slot ((hashOrderBad_message_iff s).mpr bad)
  case aad_len =>
    exact exec_hupd_of_length_bad src slot (hashOrderBad_aad_of_open phase still_open) (decide_eq_true long)
  case message_len =>
    exact exec_hupd_of_length_bad src slot (hashOrderBad_message_of_open phase still_open) (decide_eq_true long)

/-- Settles O49, by HUPD6's three checks in order; its six Horner steps are the fold over the slots. -/
theorem hupd6Result : Obligations.Hupd6Result := by
  intro src s x acc
  have folded : hashFold s.hmode s.h s.acc (s.sixBlocks src) = acc := by
    rw [hashFold_eq_foldl]
    cases src <;> rfl
  refine ⟨fun no_pipe cls => exec_hupd6_of_no_pipe src no_pipe, fun pipe bad => ?aad_seq,
    fun pipe phase still_open => ?aad, fun pipe bad => ?message_seq, fun pipe phase still_open => ?message⟩
  case aad_seq => exact exec_hupd6_of_order_bad src pipe ((hashOrderBad_aad_iff s).mpr bad)
  case message_seq => exact exec_hupd6_of_order_bad src pipe ((hashOrderBad_message_iff s).mpr bad)
  case aad =>
    split
    next fits =>
      rw [exec_hupd6_of_canAbsorb (cls := .aad) src pipe ⟨phase, still_open, fits⟩, ← folded]
      rfl
    next long =>
      exact exec_hupd6_of_length_bad src pipe (hashOrderBad_aad_of_open phase still_open)
        (decide_eq_true (Nat.lt_of_not_le long))
  case message =>
    split
    next fits =>
      rw [exec_hupd6_of_canAbsorb (cls := .message) src pipe ⟨phase, still_open, fits⟩, ← folded]
      rfl
    next long =>
      exact exec_hupd6_of_length_bad src pipe (hashOrderBad_message_of_open phase still_open)
        (decide_eq_true (Nat.lt_of_not_le long))

/-- Settles O48: six HUPDs of whole blocks absorb the slots one after the other, which is HUPD6's fold. -/
theorem hupd6IsSixHupds : Obligations.Hupd6IsSixHupds := by
  intro cls src s pipe aad message
  have legal : s.CanAbsorb 96 cls := by
    cases cls with
    | aad => exact aad rfl
    | message => exact message rfl
  have six := exec_hupd6_of_canAbsorb src pipe legal
  refine ⟨⟨_, six, rfl, ?_⟩, ?_⟩
  · simp [State.hupd6Effect]
  · have first := exec_hupd_full src 0 (legal.mono (by decide))
    have others := execAll_hupd_full src [1, 2, 3, 4, 5] [(s.sourceSlots src)[(0 : Fin 8)]] legal
    rw [six, hupd6Effect_complete]
    exact ((execAll_cons_next first).trans others).symm

/-- Settles O50, by HLEN's one check, with the bytes of the length block in each mode. -/
theorem hlenResult : Obligations.HlenResult := by
  intro s
  refine ⟨fun none_open => ?seq, fun phase =>
    ⟨s.lengthBlock, fun b inside => ⟨fun mode => ?polyval, fun mode => ?ghash⟩, ?completes⟩⟩
  case seq => exact exec_hlen_of_no_session ((noOpenSession_iff s).mpr none_open)
  case polyval => exact byteAt_lengthBlock_polyval mode inside
  case ghash => exact byteAt_lengthBlock_ghash mode inside
  case completes =>
    refine exec_hlen_of_session ?_
    rw [← Bool.not_eq_true, noOpenSession_iff]
    rcases phase with phase | phase <;> simp [phase]

end Sys2Proof.Proofs
end

section
/-! PROOFS. The CTR commands CTRX1, CTRX4 and CTRX8 (44_ctr.md R213 to R219): their checks in order, their results, the
batch commands as CTRX1s, and decryption as encryption. -/

namespace Sys2Proof.Machine

theorem counterBad_iff (s : State) : s.counterBad = true ↔ s.cv = false ∨ s.cpart = true := by
  simp [State.counterBad]

theorem counterBad_of_stream {s : State} (counting : s.cv = true) (still_open : s.cpart = false) :
    s.counterBad = false := by
  simp [State.counterBad, counting, still_open]

/-! ## CTRX1 -/

section Ctrx1
variable {s : State} (slot : Fin 8) (n : Nat)

theorem exec_ctrx1_of_no_subkey (none_derived : s.sv = false) :
    exec (.ctrx1 slot n) s = .next (s.reject .nosubkey) := by
  apply exec_of_failing
  simp [commandChecks, State.ctrx1Checks, firstError_cons, none_derived]

theorem exec_ctrx1_of_counterBad (derived : s.sv = true) (bad : s.counterBad = true) :
    exec (.ctrx1 slot n) s = .next (s.reject .seq) := by
  apply exec_of_failing
  simp [commandChecks, State.ctrx1Checks, firstError_cons, derived, bad]

theorem exec_ctrx1_of_stream (derived : s.sv = true) (counting : s.cv = true) (still_open : s.cpart = false) :
    exec (.ctrx1 slot n) s = .next (s.ctrx1Effect slot n).complete := by
  apply exec_of_passing
  simp [commandChecks, State.ctrx1Checks, firstError_cons, derived, counterBad_of_stream counting still_open]

theorem getElem_dout_ctrx1Effect (s : State) :
    (s.ctrx1Effect slot n).dout[slot] = firstBytes n (s.din[slot] ^^^ s.keystream 0) := by
  simp [State.ctrx1Effect]

theorem getElem_dout_ctrx1Effect_other (s : State) {j : Fin 8} (other : j ≠ slot) :
    (s.ctrx1Effect slot n).dout[j] = s.dout[j] := by
  simp [State.ctrx1Effect, Fin.val_ne_of_ne other.symm]

end Ctrx1

/-! ## The batch commands -/

/-- The command is CTRX4 or CTRX8, and lanes is its number of lanes. -/
def IsBatch (i : Instr) (lanes : Nat) : Prop := (i = .ctrx4 ∧ lanes = 4) ∨ (i = .ctrx8 ∧ lanes = 8)

theorem commandChecks_of_batch {i : Instr} {lanes : Nat} (batch : IsBatch i lanes) (s : State) :
    commandChecks i s = s.ctrxBatchChecks := by
  rcases batch with ⟨rfl, rfl⟩ | ⟨rfl, rfl⟩ <;> rfl

theorem commandEffect_of_batch {i : Instr} {lanes : Nat} (batch : IsBatch i lanes) (s : State) :
    commandEffect i s = s.cryptLanes lanes := by
  rcases batch with ⟨rfl, rfl⟩ | ⟨rfl, rfl⟩ <;> rfl

section Batch
variable {i : Instr} {lanes : Nat} (batch : IsBatch i lanes) {s : State}
include batch

theorem exec_batch_of_no_pipe (no_pipe : s.params.pipe = false) : exec i s = .next (s.reject .illop) := by
  apply exec_of_failing
  simp [commandChecks_of_batch batch, State.ctrxBatchChecks, firstError_cons, State.pipeAbsent, no_pipe]

variable (pipe : s.params.pipe = true)
include pipe

theorem exec_batch_of_no_subkey (none_derived : s.sv = false) : exec i s = .next (s.reject .nosubkey) := by
  apply exec_of_failing
  simp [commandChecks_of_batch batch, State.ctrxBatchChecks, firstError_cons, State.pipeAbsent, pipe, none_derived]

theorem exec_batch_of_counterBad (derived : s.sv = true) (bad : s.counterBad = true) :
    exec i s = .next (s.reject .seq) := by
  apply exec_of_failing
  simp [commandChecks_of_batch batch, State.ctrxBatchChecks, firstError_cons, State.pipeAbsent, pipe, derived, bad]

theorem exec_batch_of_stream (derived : s.sv = true) (counting : s.cv = true) (still_open : s.cpart = false) :
    exec i s = .next (s.cryptLanes lanes).complete := by
  rw [← commandEffect_of_batch batch]
  apply exec_of_passing
  simp [commandChecks_of_batch batch, State.ctrxBatchChecks, firstError_cons, State.pipeAbsent, pipe, derived,
    counterBad_of_stream counting still_open]

end Batch

theorem getElem_dout_cryptLanes (s : State) (lanes : Nat) (j : Fin 8) :
    (s.cryptLanes lanes).dout[j] = if j.val < lanes then s.din[j] ^^^ s.keystream j.val else s.dout[j] := by
  simp

/-! ## Lane by lane (44_ctr.md R217) -/

theorem keystream_cryptLanes (s : State) (lanes : Nat) : (s.cryptLanes lanes).keystream 0 = s.keystream lanes := rfl

theorem cryptLanes_zero (s : State) : s.cryptLanes 0 = s := by simp [State.cryptLanes, incBy]

/-- CTRX1 of a whole block on the slot after the first k lanes is lane k. -/
theorem ctrx1Effect_cryptLanes (s : State) (k : Fin 8) :
    (s.cryptLanes k.val).ctrx1Effect k 16 = s.cryptLanes (k.val + 1) := by
  have slots : (s.cryptLanes k.val).dout.set k (s.din[k] ^^^ s.keystream k.val) = (s.cryptLanes (k.val + 1)).dout := by
    ext1 j inside
    simp only [Vector.getElem_set, State.cryptLanes_dout, Vector.getElem_ofFn]
    rcases lt_trichotomy j k.val with before | rfl | after
    · simp [before, before.ne', Nat.lt_succ_of_lt before]
    · simp
    · simp [after.ne, after.not_gt, show ¬j < k.val + 1 by omega]
  calc (s.cryptLanes k.val).ctrx1Effect k 16
      = { s.cryptLanes k.val with
            dout := (s.cryptLanes k.val).dout.set k (s.din[k] ^^^ s.keystream k.val),
            ctr := inc (incBy k.val s.ctr) } := by
        simp [State.ctrx1Effect, keystream_cryptLanes]
    _ = s.cryptLanes (k.val + 1) := by
        rw [slots, ← incBy_succ]
        rfl

section Lanes
variable {s : State} (derived : s.sv = true) (counting : s.cv = true) (still_open : s.cpart = false)
include derived counting still_open

/-- CTRX1s of whole blocks on the m slots after the first k lanes are m more lanes. -/
theorem execAll_ctrx1_after_lanes (m k : Nat) (inside : k + m ≤ 8) :
    execAll ((List.range' k m).map fun j => .ctrx1 (Fin.ofNat 8 j) 16) (s.cryptLanes k).complete =
      .next (s.cryptLanes (k + m)).complete := by
  induction m generalizing k with
  | zero => rfl
  | succ m ih =>
    have one : exec (.ctrx1 (Fin.ofNat 8 k) 16) (s.cryptLanes k).complete = .next (s.cryptLanes (k + 1)).complete := by
      have slot : (Fin.ofNat 8 k).val = k := Nat.mod_eq_of_lt (by omega)
      have lane := ctrx1Effect_cryptLanes s (Fin.ofNat 8 k)
      rw [slot] at lane
      rw [← lane]
      exact exec_ctrx1_of_stream (s := (s.cryptLanes k).complete) _ 16 derived counting still_open
    rw [List.range'_succ, List.map_cons, execAll_cons_next one, ih (k + 1) (by omega), Nat.add_right_comm,
      Nat.add_assoc]

/-- CTRX1s of whole blocks on the first slots are the lanes of a batch command. -/
theorem execAll_ctrx1_eq_lanes (m : Nat) (inside : m < 8) :
    execAll ((List.range' 0 (m + 1)).map fun j => .ctrx1 (Fin.ofNat 8 j) 16) s =
      .next (s.cryptLanes (m + 1)).complete := by
  have first : exec (.ctrx1 (Fin.ofNat 8 0) 16) s = .next (s.cryptLanes 1).complete := by
    have lane := ctrx1Effect_cryptLanes s 0
    rw [Fin.val_zero, cryptLanes_zero] at lane
    rw [← lane]
    exact exec_ctrx1_of_stream _ 16 derived counting still_open
  rw [List.range'_succ, List.map_cons, execAll_cons_next first,
    execAll_ctrx1_after_lanes derived counting still_open m 1 (by omega), Nat.add_comm]

end Lanes

end Sys2Proof.Machine

namespace Sys2Proof.Proofs
open Sys2Proof.Machine

/-- Settles O54, by CTRX1's two checks in order, with the bytes of the output block. -/
theorem ctrx1Result : Obligations.Ctrx1Result := by
  intro slot n s _ _
  refine ⟨exec_ctrx1_of_no_subkey slot n, fun derived bad => ?seq, fun derived counting still_open =>
    ⟨_, exec_ctrx1_of_stream slot n derived counting still_open, fun b inside => ?bytes,
      fun j other => ?others, ?frame⟩⟩
  case seq => exact exec_ctrx1_of_counterBad slot n derived ((counterBad_iff s).mpr bad)
  case bytes =>
    have output : (s.ctrx1Effect slot n).complete.dout[slot] = firstBytes n (s.din[slot] ^^^ s.keystream 0) :=
      getElem_dout_ctrx1Effect slot n s
    rw [output, byteAt_firstBytes _ _ inside, byteAt_xor]
    rfl
  case others => exact getElem_dout_ctrx1Effect_other slot n s other
  case frame => simp [State.ctrx1Effect, State.complete, still_open, incBy]

/-- Settles O55, by the three checks of the batch commands in order. -/
theorem ctrxBatchResult : Obligations.CtrxBatchResult := by
  intro i lanes s batch
  refine ⟨exec_batch_of_no_pipe batch, exec_batch_of_no_subkey batch, fun pipe derived bad => ?seq,
    fun pipe derived counting still_open =>
      ⟨_, exec_batch_of_stream batch pipe derived counting still_open, getElem_dout_cryptLanes s lanes, rfl⟩⟩
  case seq => exact exec_batch_of_counterBad batch pipe derived ((counterBad_iff s).mpr bad)

/-- Settles O56: each CTRX1 of a whole block is one more lane, and both batch commands are their lanes. -/
theorem batchEquivalence : Obligations.BatchEquivalence := by
  intro s pipe derived counting still_open
  refine ⟨?four, ?eight⟩
  case four =>
    rw [exec_batch_of_stream (.inl ⟨rfl, rfl⟩) pipe derived counting still_open]
    exact (execAll_ctrx1_eq_lanes derived counting still_open 3 (by decide)).symm
  case eight =>
    rw [exec_batch_of_stream (.inr ⟨rfl, rfl⟩) pipe derived counting still_open]
    exact (execAll_ctrx1_eq_lanes derived counting still_open 7 (by decide)).symm

/-- Settles O57: both runs use the same keystream, and exclusive-or with it twice gives the input back. -/
theorem decryptionIsEncryption : Obligations.DecryptionIsEncryption := by
  intro s t u
  refine ⟨fun slot n _ most derived counting still_open encrypted decrypted b inside => ?one,
    fun i lanes batch pipe derived counting still_open encrypted decrypted j inside => ?batch⟩
  case one =>
    have block : b < 16 := by omega
    have sealed := encrypted.symm.trans (exec_ctrx1_of_stream slot n derived counting still_open)
    have opened := decrypted.symm.trans
      (exec_ctrx1_of_stream (s := s.loadSlot slot t.dout[slot]) slot n derived counting still_open)
    obtain rfl := Host.Outcome.next.inj sealed
    obtain rfl := Host.Outcome.next.inj opened
    have output (r : State) : byteAt (r.ctrx1Effect slot n).complete.dout[slot] b =
        byteAt r.din[slot] b ^^^ byteAt (r.keystream 0) b := by
      rw [State.complete_dout, getElem_dout_ctrx1Effect, byteAt_firstBytes _ _ block, if_pos inside, byteAt_xor]
    have loaded (x : Block) : (s.loadSlot slot x).din[slot] = x := by simp [State.loadSlot]
    have same_stream (x : Block) : (s.loadSlot slot x).keystream 0 = s.keystream 0 := rfl
    rw [output, loaded, same_stream, output, BitVec.xor_assoc, BitVec.xor_self, BitVec.xor_zero]
  case batch =>
    have sealed := encrypted.symm.trans (exec_batch_of_stream batch pipe derived counting still_open)
    have opened := decrypted.symm.trans
      (exec_batch_of_stream (s := { s with din := t.dout }) batch pipe derived counting still_open)
    obtain rfl := Host.Outcome.next.inj sealed
    obtain rfl := Host.Outcome.next.inj opened
    have output (r : State) : (r.cryptLanes lanes).complete.dout[j] = r.din[j] ^^^ r.keystream j.val := by
      rw [State.complete_dout, getElem_dout_cryptLanes, if_pos inside]
    have same_stream (d : Vector Block 8) : ({ s with din := d } : State).keystream j.val = s.keystream j.val := rfl
    rw [output, same_stream (s.cryptLanes lanes).complete.dout, output, BitVec.xor_assoc, BitVec.xor_self,
      BitVec.xor_zero]

end Sys2Proof.Proofs
end

section
/-! PROOFS. The step of the machine, forwards (60_exceptions.md R260; 20_memory.md R61; 70_reset_and_hazards.md R290):
what each kind of move does, and when a step is refused. -/

namespace Sys2Proof.Machine

/-! ## The moves -/

section EngineMoves
variable {s : State} (engine : s.engineNext = true)
include engine

theorem step_of_idle (none_pending : s.busy = false) : step s = .next (s.setInputs s.inputs.tail) := by
  rw [step_of_engineNext engine, engineTurn_idle]
  exact none_pending

theorem step_of_undecodable (pending : s.busy = true) {e : DecodeError}
    (bad : decode s.params.pipe s.pending = .error e) :
    step s = .next ((s.setInputs s.inputs.tail).reject (decodeErrCode e)) := by
  rw [step_of_engineNext engine, engineTurn_busy (s := s.setInputs s.inputs.tail) pending]
  exact engineStep_of_error bad

theorem step_of_command (pending : s.busy = true) {i : Instr} (legal : decode s.params.pipe s.pending = .ok i) :
    step s = exec i (s.setInputs s.inputs.tail) := by
  rw [step_of_engineNext engine, engineTurn_busy (s := s.setInputs s.inputs.tail) pending]
  exact engineStep_of_ok legal

end EngineMoves

theorem step_of_input {s : State} {input : Input} {rest : List Input} (next : s.inputs = input :: rest) :
    step s = takeInput input (s.setInputs rest) := nextMove_cons next

theorem step_of_read {s : State} {off : Nat} {rest : List Input} (next : s.inputs = .read off 4 :: rest)
    (aligned : off % 4 = 0) (inside : off < 0x200) : step s = .next ((s.setInputs rest).hostRead off) :=
  (step_of_input next).trans (hostAccess_performed _ rfl aligned inside)

theorem step_of_write {s : State} {off : Nat} {v : Word} {rest : List Input} (next : s.inputs = .write off 4 v :: rest)
    (aligned : off % 4 = 0) (inside : off < 0x200) : step s = .next ((s.setInputs rest).hostWrite off v) :=
  (step_of_input next).trans (hostAccess_performed _ rfl aligned inside)

theorem step_of_reset {s : State} {rest : List Input} (next : s.inputs = .reset :: rest) :
    step s = .next (s.setInputs rest).resetPulse := step_of_input next

/-! ## When a step is refused -/

theorem exec_answers_next (i : Instr) (s : State) : ∃ t, exec i s = .next t := by
  rw [exec_eq_runCommand]
  exact runCommand_answers_next _ _ s

theorem engineTurn_answers_next (s : State) : ∃ t, engineTurn s = .next t := by
  unfold engineTurn engineStep
  split
  · split
    · exact ⟨_, rfl⟩
    · exact exec_answers_next _ s
  · exact ⟨s, rfl⟩

theorem hostAccess_answers_next {off size : Nat} (t : State)
    (legal : (size == 4 && off % 4 == 0 && decide (off < 0x200)) = true) : hostAccess off size t = .next t := by
  simp only [Bool.and_eq_true, beq_iff_eq, decide_eq_true_eq, and_assoc] at legal
  obtain ⟨word, aligned, inside⟩ := legal
  exact hostAccess_performed t word aligned inside

theorem hostAccess_refused {off size : Nat} (t : State)
    (illegal : (size == 4 && off % 4 == 0 && decide (off < 0x200)) = false) :
    ∃ r, hostAccess off size t = .refused r := by
  have some_reason : accessRefusal off size ≠ none := by
    rw [ne_eq, accessRefusal_none_iff]
    rintro ⟨word, aligned, inside⟩
    simp [word, aligned, inside] at illegal
  obtain ⟨r, reason⟩ := Option.ne_none_iff_exists'.mp some_reason
  exact ⟨r, by simp [hostAccess, reason]⟩

theorem takeInput_answers_next {input : Input} (legal : input.legal = true) (s : State) :
    ∃ t, takeInput input s = .next t := by
  cases input with
  | engine => exact engineTurn_answers_next s
  | read off size => exact ⟨_, hostAccess_answers_next _ legal⟩
  | write off size v => exact ⟨_, hostAccess_answers_next _ legal⟩
  | reset => exact ⟨_, rfl⟩

theorem takeInput_refused {input : Input} (illegal : input.legal = false) (s : State) :
    ∃ r, takeInput input s = .refused r := by
  cases input with
  | engine | reset => cases illegal
  | read off size => exact hostAccess_refused _ illegal
  | write off size v => exact hostAccess_refused _ illegal

/-- A step is refused on an illegal host access; otherwise it answers a next state. -/
theorem step_refused_or_next (s : State) :
    (∃ input rest, s.inputs = input :: rest ∧ input.legal = false ∧ ∃ r, step s = .refused r) ∨
    (¬(∃ input rest, s.inputs = input :: rest ∧ input.legal = false) ∧ ∃ t, step s = .next t) := by
  cases next : s.inputs with
  | nil =>
    refine .inr ⟨by simp, ?_⟩
    rw [step, nextMove_nil next]
    exact engineTurn_answers_next s
  | cons input rest =>
    rw [step_of_input next]
    cases legal : input.legal with
    | false => exact .inl ⟨input, rest, rfl, legal, takeInput_refused legal _⟩
    | true => exact .inr ⟨by simp [legal], takeInput_answers_next legal _⟩

/-! ## What host accesses and commands leave unchanged -/

/-- Everything a host write can do. -/
theorem hostWrite_cases (s : State) (off : Nat) (v : Word) :
    s.hostWrite off v = s ∨ s.hostWrite off v = s.recordError .busy (BitVec.ofNat 32 off) ∨
      s.hostWrite off v = s.writeCtrl v ∨ (Reg.atOffset off = .status ∧ s.hostWrite off v = s.writeStatus v) ∨
      (Reg.atOffset off = .cmd ∧ s.busy = false ∧ s.hostWrite off v = s.accept v) ∨
      (∃ k, s.hostWrite off v = { s with key := k }) ∨ (∃ n, s.hostWrite off v = { s with nonce := n }) ∨
      ∃ d, s.hostWrite off v = { s with din := d } := by
  by_cases recorded : (s.busy && (Reg.atOffset off).busyGuarded) = true
  · exact .inr (.inl (by simp [State.hostWrite, recorded]))
  · have performed : s.hostWrite off v = s.writeReg v (Reg.atOffset off) := by simp [State.hostWrite, recorded]
    rw [performed]
    rcases writeReg_cases s v (Reg.atOffset off) with same | ⟨-, ctrl⟩ | status | ⟨cmd, accepted⟩ | key | nonce | din
    · exact .inl same
    · exact .inr (.inr (.inl ctrl))
    · exact .inr (.inr (.inr (.inl status)))
    · have idle : s.busy = false := by simpa [cmd, Reg.busyGuarded] using recorded
      exact .inr (.inr (.inr (.inr (.inl ⟨cmd, idle, accepted⟩))))
    · exact .inr (.inr (.inr (.inr (.inr (.inl key)))))
    · exact .inr (.inr (.inr (.inr (.inr (.inr (.inl nonce))))))
    · exact .inr (.inr (.inr (.inr (.inr (.inr (.inr din))))))

/-- Host writes change no parameter and nothing of the master key schedule. -/
theorem hostWrite_keeps_params_master (s : State) (off : Nat) (v : Word) :
    (s.hostWrite off v).params = s.params ∧ (s.hostWrite off v).mrk = s.mrk ∧ (s.hostWrite off v).kv = s.kv ∧
      (s.hostWrite off v).mksz = s.mksz := by
  rcases hostWrite_cases s off v with same | recorded | ctrl | ⟨-, status⟩ | ⟨-, -, accepted⟩ | ⟨_, key⟩ | ⟨_, nonce⟩ |
    ⟨_, din⟩
  · simp [same]
  · simp [recorded]
  · simp [ctrl, State.writeCtrl]
  · simp [status, writeStatus_eq]
  · simp [accepted]
  · simp [key]
  · simp [nonce]
  · simp [din]

/-- What no command touches, whether it completes or not (60_exceptions.md sections 1 and 3). -/
theorem commandEffect_frame (i : Instr) (s : State) :
    (commandEffect i s).ieDone = s.ieDone ∧ (commandEffect i s).ieErr = s.ieErr ∧
      (commandEffect i s).pending = s.pending ∧ (commandEffect i s).params = s.params ∧
      (commandEffect i s).inputs = s.inputs ∧ (commandEffect i s).reads = s.reads ∧
      (commandEffect i s).draws = s.draws := by
  cases i with
  | hupd cls src slot n => simp [commandEffect, State.hupdEffect]
  | hupd6 cls src => simp [commandEffect, State.hupd6Effect]
  | zero scope => cases scope <;> simp [commandEffect, State.zeroise]
  | _ => exact ⟨rfl, rfl, rfl, rfl, rfl, rfl, rfl⟩

theorem exec_keeps_params {i : Instr} {s t : State} (ran : exec i s = .next t) : t.params = s.params := by
  rcases (exec_next_iff i s t).mp ran with ⟨e, -, rfl⟩ | ⟨-, rfl⟩
  · rfl
  · obtain ⟨-, -, -, kept, -⟩ := commandEffect_frame i s
    exact kept

theorem step_keeps_params {s t : State} (moved : step s = .next t) : t.params = s.params := by
  rcases step_cases moved with ⟨-, -, rfl⟩ | ⟨-, -, e, -, rfl⟩ | ⟨-, -, i, -, ran⟩ | ⟨off, rest, -, -, -, rfl⟩ |
    ⟨off, v, rest, -, -, -, rfl⟩ | ⟨rest, -, rfl⟩
  · rfl
  · rfl
  · exact (exec_keeps_params ran).trans rfl
  · rfl
  · exact (hostWrite_keeps_params_master (s.setInputs rest) off v).1
  · rfl

/-- BUSY is the code of a bus error, never of a command's check (60_exceptions.md R261). -/
theorem ne_busy_of_check_failed {i : Instr} {s : State} {e : ErrCode}
    (failed : firstError (commandChecks i s) = some e) : e ≠ .busy := by
  rintro rfl
  have listed := firstError_mem failed
  cases i with
  | aese ksel slot => cases ksel <;> simp [commandChecks, State.aeseChecks, aeseKeyError] at listed
  | _ => simp [commandChecks, State.kdfChecks, State.hinitChecks, State.hupdChecks, State.hupd6Checks, State.hlenChecks,
      State.tagfChecks, State.ctriChecks, State.ctrx1Checks, State.ctrxBatchChecks] at listed

end Sys2Proof.Machine

namespace Sys2Proof.Proofs
open Sys2Proof.Machine

/-- Settles O6, by the kind of the next move. -/
theorem stepRunsDecodedInstruction : Obligations.StepRunsDecodedInstruction := by
  intro s
  refine ⟨fun engine => ⟨fun i pending legal => ?command, fun e pending bad => ?undecodable, fun none_pending => ?idle⟩,
    fun off rest aligned inside => ⟨fun next => ?read, fun v next => ?write⟩⟩
  case command => exact step_of_command engine pending legal
  case undecodable =>
    rw [step_of_undecodable engine pending bad]
    cases e <;> rfl
  case idle => exact step_of_idle engine none_pending
  case read => exact step_of_read next aligned inside
  case write => exact step_of_write next aligned inside

/-- Settles O8: a step is refused or has a next state, by the legality of the next input. -/
theorem stepRefusesOnlyBadAccess : Obligations.StepRefusesOnlyBadAccess := by
  intro s
  rcases step_refused_or_next s with ⟨input, rest, next, illegal, r, refused⟩ | ⟨all_legal, t, moved⟩
  · refine ⟨by simp [refused], ⟨fun _ => ⟨input, rest, next, illegal⟩, fun _ => ⟨r, refused⟩⟩, by simp [refused]⟩
  · exact ⟨by simp [moved], by simpa [moved] using all_legal, fun _ => step_keeps_params⟩

/-- Settles O23: the reset move, whose one update is `resetPulse`. -/
theorem resetInputResets : Obligations.ResetInputResets := fun _ _ next => step_of_reset next

/-- Settles O7: a completing command has its effect, which touches no error record and no frame field; a rejected one
records the error of its first failing check. -/
theorem commandCompletesOrIsPrecise : Obligations.CommandCompletesOrIsPrecise := by
  intro i s
  cases checks : firstError (commandChecks i s) with
  | none =>
    obtain ⟨same_err, same_code, same_info⟩ := commandEffect_keeps_error i s
    exact ⟨_, exec_of_passing checks, .inl ⟨rfl, rfl, same_err, same_code, same_info, commandEffect_frame i s⟩⟩
  | some e =>
    exact ⟨_, exec_of_failing checks, .inr ⟨e, ne_busy_of_check_failed checks, reject_eq_rejected s e⟩⟩

end Sys2Proof.Proofs
end

section
/-! PROOFS. What the commands keep and what their checks guarantee (10_state.md sections 3 and 4; 41_uhash.md R165;
60_exceptions.md R268; 70_reset_and_hazards.md R292). -/

namespace Sys2Proof.Machine

open Sys2Proof.Statements (phaseAfter)

/-! ## What passing checks guarantee -/

/-- The checks of a command all pass in a state. -/
def Passes (i : Instr) (s : State) : Prop := firstError (commandChecks i s) = none

section Passing
variable {s : State}

theorem Passes.kdf (ok : Passes .kdf s) : s.kv = true := by
  simpa [Passes, firstError_none_iff, commandChecks, State.kdfChecks] using ok

theorem Passes.hinit {hm : HashMode} (ok : Passes (.hinit hm) s) : s.hv = true := by
  simpa [Passes, firstError_none_iff, commandChecks, State.hinitChecks] using ok

theorem Passes.hupd {cls : HashClass} {src : DataSource} {slot : Fin 8} {n : Nat}
    (ok : Passes (.hupd cls src slot n) s) : s.CanAbsorb n cls := by
  rw [canAbsorb_iff]
  simpa [Passes, firstError_none_iff, commandChecks, State.hupdChecks] using ok

theorem Passes.hupd6 {cls : HashClass} {src : DataSource} (ok : Passes (.hupd6 cls src) s) :
    s.params.pipe = true ∧ s.CanAbsorb 96 cls := by
  rw [canAbsorb_iff]
  simpa [Passes, firstError_none_iff, commandChecks, State.hupd6Checks, State.pipeAbsent] using ok

theorem Passes.hlen (ok : Passes .hlen s) : s.ph ≠ .idle ∧ s.ph ≠ .final := by
  simpa [Passes, firstError_none_iff, commandChecks, State.hlenChecks, State.noOpenSession] using ok

theorem Passes.tagf (ok : Passes .tagf s) : s.sv = true ∧ s.hmode ≠ .ghash ∧ s.ph = .final := by
  simpa [Passes, firstError_none_iff, commandChecks, State.tagfChecks] using ok

theorem Passes.ctrx1 {slot : Fin 8} {n : Nat} (ok : Passes (.ctrx1 slot n) s) :
    s.sv = true ∧ s.cv = true ∧ s.cpart = false := by
  simpa [Passes, firstError_none_iff, commandChecks, State.ctrx1Checks, State.counterBad] using ok

theorem Passes.batch {i : Instr} {lanes : Nat} (batch : IsBatch i lanes) (ok : Passes i s) :
    s.sv = true ∧ s.cv = true ∧ s.cpart = false := by
  rw [Passes, commandChecks_of_batch batch] at ok
  obtain ⟨-, subkey_and_stream⟩ : s.params.pipe = true ∧ s.sv = true ∧ s.cv = true ∧ s.cpart = false := by
    simpa [State.ctrxBatchChecks, firstError_none_iff, State.pipeAbsent, State.counterBad] using ok
  exact subkey_and_stream

end Passing

/-- Everything a command can do, with the checks named. -/
theorem exec_cases {i : Instr} {s t : State} (ran : exec i s = .next t) :
    (∃ e, firstError (commandChecks i s) = some e ∧ t = s.reject e) ∨ (Passes i s ∧ t = (commandEffect i s).complete) :=
  (exec_next_iff i s t).mp ran

/-! ## What the effects keep -/

theorem commandEffect_keeps_din_nonce {i : Instr} (not_zero : ∀ z, i ≠ .zero z) (s : State) :
    (commandEffect i s).din = s.din ∧ (commandEffect i s).nonce = s.nonce := by
  cases i with
  | hupd cls src slot n => simp [commandEffect, State.hupdEffect]
  | hupd6 cls src => simp [commandEffect, State.hupd6Effect]
  | zero scope => exact absurd rfl (not_zero scope)
  | _ => exact ⟨rfl, rfl⟩

theorem commandEffect_keeps_key {i : Instr} (not_zero_all : i ≠ .zero .all) (s : State) :
    (commandEffect i s).key = s.key := by
  cases i with
  | hupd cls src slot n => simp [commandEffect, State.hupdEffect]
  | hupd6 cls src => simp [commandEffect, State.hupd6Effect]
  | zero scope =>
    cases scope with
    | ephemeral => rfl
    | all => exact absurd rfl not_zero_all
  | _ => rfl

theorem commandEffect_keeps_master {i : Instr} (not_kexp : ∀ ksz, i ≠ .kexp ksz) (not_zero_all : i ≠ .zero .all)
    (s : State) :
    (commandEffect i s).mrk = s.mrk ∧ (commandEffect i s).kv = s.kv ∧ (commandEffect i s).mksz = s.mksz := by
  cases i with
  | kexp ksz => exact absurd rfl (not_kexp ksz)
  | hupd cls src slot n => simp [commandEffect, State.hupdEffect]
  | hupd6 cls src => simp [commandEffect, State.hupd6Effect]
  | zero scope =>
    cases scope with
    | ephemeral => exact ⟨rfl, rfl, rfl⟩
    | all => exact absurd rfl not_zero_all
  | _ => exact ⟨rfl, rfl, rfl⟩

/-- The commands that write H are those that clear the hash session. -/
theorem commandEffect_keeps_h_or_idle (i : Instr) (s : State) :
    (commandEffect i s).h = s.h ∨ (commandEffect i s).ph = .idle := by
  cases i with
  | kexp | kdf | hkey => exact .inr rfl
  | zero scope => cases scope <;> exact .inr rfl
  | hupd cls src slot n => simp [commandEffect, State.hupdEffect]
  | hupd6 cls src => simp [commandEffect, State.hupd6Effect]
  | _ => exact .inl rfl

theorem commandEffect_ph (i : Instr) (s : State) : (commandEffect i s).ph = phaseAfter i s.ph := by
  cases i with
  | hupd cls src slot n => cases cls <;> rfl
  | hupd6 cls src => cases cls <;> rfl
  | zero scope => cases scope <;> rfl
  | _ => rfl

/-- After message data a completing command of the open session leaves APART and ALEN, and the phase moves on only
(10_state.md R45 item 3). -/
theorem commandEffect_aad_frozen {i : Instr} {s : State} (ok : Passes i s) (past_aad : s.ph = .msg ∨ s.ph = .final)
    (session : (commandEffect i s).ph ≠ .idle) (not_hinit : ∀ m, i ≠ .hinit m) :
    (commandEffect i s).apart = s.apart ∧ (commandEffect i s).alen = s.alen ∧ (commandEffect i s).ph ≠ .aad ∧
      (s.ph = .final → (commandEffect i s).ph = .final) := by
  have not_aad : s.ph ≠ .aad := by rintro phase; simp [phase] at past_aad
  cases i with
  | kexp | kdf | hkey => exact absurd rfl session
  | zero scope => cases scope <;> exact absurd rfl session
  | hinit m => exact absurd rfl (not_hinit m)
  | hupd cls src slot n =>
    cases cls with
    | aad => exact absurd ok.hupd.1 not_aad
    | message =>
      obtain ⟨phase, -⟩ := ok.hupd
      have not_final : s.ph ≠ .final := by rintro final; simp [final] at phase
      simp [commandEffect, State.hupdEffect, not_final]
  | hupd6 cls src =>
    obtain ⟨-, absorbs⟩ := ok.hupd6
    cases cls with
    | aad => exact absurd absorbs.1 not_aad
    | message =>
      obtain ⟨phase, -⟩ := absorbs
      have not_final : s.ph ≠ .final := by rintro final; simp [final] at phase
      simp [commandEffect, State.hupd6Effect, not_final]
  | hlen => exact ⟨rfl, rfl, by simp [commandEffect, State.hlenEffect], fun _ => rfl⟩
  | _ => exact ⟨rfl, rfl, not_aad, id⟩

/-! ## DONE at a host write (60_exceptions.md R267, R268) -/

theorem atOffset_eq_cmd_iff {off : Nat} (aligned : off % 4 = 0) : Reg.atOffset off = .cmd ↔ off = 0x010 := by
  simp only [Reg.atOffset, ite_eq_iff, reduceCtorEq, and_false, and_true, or_false, false_or]
  omega

/-- A host write keeps DONE, or clears it: by bit 1 of STATUS, or because it issues a command. -/
theorem hostWrite_done_cases (s : State) (off : Nat) (v : Word) :
    (s.hostWrite off v).done = s.done ∨ ((s.hostWrite off v).done = false ∧
      (Reg.atOffset off = .status ∧ v.getLsbD 1 = true ∨
        Reg.atOffset off = .cmd ∧ (s.hostWrite off v).busy = true ∧ (s.hostWrite off v).pending = v)) := by
  rcases hostWrite_cases s off v with written | written | written | ⟨status, written⟩ | ⟨cmd, -, written⟩ |
    ⟨_, written⟩ | ⟨_, written⟩ | ⟨_, written⟩ <;> rw [written]
  case inr.inr.inr.inl =>
    rw [writeStatus_eq]
    cases bit : v.getLsbD 1 with
    | false => simp
    | true => simp [status]
  case inr.inr.inr.inr.inl => exact .inr ⟨rfl, .inr ⟨cmd, rfl, rfl⟩⟩
  all_goals exact .inl rfl

end Sys2Proof.Machine

namespace Sys2Proof.Proofs
open Sys2Proof.Machine

/-- Settles O27: a rejected command keeps the three fields, and so does every effect but ZERO's. -/
theorem commandsKeepHostData : Obligations.CommandsKeepHostData := by
  intro i s t ran
  rcases exec_cases ran with ⟨e, -, rfl⟩ | ⟨-, rfl⟩
  · exact ⟨fun _ => ⟨rfl, rfl⟩, fun _ => rfl⟩
  · exact ⟨fun not_zero => commandEffect_keeps_din_nonce not_zero s,
      fun not_zero_all => commandEffect_keeps_key not_zero_all s⟩

/-- Settles O28: a rejected command keeps H, and the effects that write it are those of HashClear. -/
theorem hashKeyChangeEndsSession : Obligations.HashKeyChangeEndsSession := by
  intro i s t ran changed
  rcases exec_cases ran with ⟨e, -, rfl⟩ | ⟨-, rfl⟩
  · exact absurd rfl changed
  · exact (commandEffect_keeps_h_or_idle i s).resolve_left changed

/-- Settles O29, by the commands that complete in phase MSG or FINAL. -/
theorem aadFrozenAfterMessage : Obligations.AadFrozenAfterMessage := by
  intro i s t ran past_aad session not_hinit
  rcases exec_cases ran with ⟨e, -, rfl⟩ | ⟨ok, rfl⟩
  · exact ⟨rfl, rfl, by rcases past_aad with phase | phase <;> simp [phase], id⟩
  · exact commandEffect_aad_frozen ok past_aad session not_hinit

/-- Settles O30: a completed command leaves the phase of the table, and where the table says SEQ the check on the order
of the commands is the first that fails. -/
theorem phaseMachine : Obligations.PhaseMachine := by
  intro i s t ran
  have answers {u : State} (answer : exec i s = .next u) : t = u := Host.Outcome.next.inj (ran.symm.trans answer)
  refine ⟨?phase, fun src slot n absorbs pipe bad => ?aad, fun src slot n absorbs pipe bad => ?message,
    fun hlen closed => ?hlen, fun tagf derived mode unfinished => ?tagf⟩
  case phase =>
    rcases exec_cases ran with ⟨e, -, rfl⟩ | ⟨-, rfl⟩
    · exact .inr (reject_eq_rejected s e)
    · exact .inl ⟨rfl, commandEffect_ph i s⟩
  case aad =>
    have order := (hashOrderBad_aad_iff s).mpr bad
    rcases absorbs with rfl | rfl
    · exact answers (exec_hupd_of_order_bad src slot order)
    · exact answers (exec_hupd6_of_order_bad src pipe order)
  case message =>
    have order := (hashOrderBad_message_iff s).mpr bad
    rcases absorbs with rfl | rfl
    · exact answers (exec_hupd_of_order_bad src slot order)
    · exact answers (exec_hupd6_of_order_bad src pipe order)
  case hlen =>
    subst hlen
    exact answers (exec_hlen_of_no_session ((noOpenSession_iff s).mpr closed))
  case tagf =>
    subst tagf
    exact answers (exec_tagf_of_unfinished derived mode unfinished)

/-- Settles O26, by the kind of the move: host accesses keep the master key schedule, and of the commands only KEXP and
ZERO with ALL = 1 do not. -/
theorem masterKeyChangesOnlyByKexpZeroReset : Obligations.MasterKeyChangesOnlyByKexpZeroReset := by
  intro s t moved changed
  have not_kept : ¬(t.mrk = s.mrk ∧ t.kv = s.kv ∧ t.mksz = s.mksz) := by tauto
  rcases step_cases moved with ⟨-, -, rfl⟩ | ⟨-, -, e, -, rfl⟩ | ⟨engine, pending, i, legal, ran⟩ |
    ⟨off, rest, -, -, -, rfl⟩ | ⟨off, v, rest, -, -, -, rfl⟩ | ⟨rest, next, -⟩
  · exact absurd ⟨rfl, rfl, rfl⟩ not_kept
  · exact absurd ⟨rfl, rfl, rfl⟩ not_kept
  · refine .inr ⟨engine, pending, ?_⟩
    rcases exec_cases ran with ⟨e, -, rfl⟩ | ⟨-, rfl⟩
    · exact absurd ⟨rfl, rfl, rfl⟩ not_kept
    · by_contra! other
      obtain ⟨not_kexp, not_zero_all⟩ := other
      exact not_kept (commandEffect_keeps_master (fun ksz is_kexp => not_kexp ksz (is_kexp ▸ legal))
        (fun is_zero => not_zero_all (is_zero ▸ legal)) (s.setInputs s.inputs.tail))
  · exact absurd ⟨rfl, rfl, rfl⟩ not_kept
  · exact absurd (hostWrite_keeps_params_master (s.setInputs rest) off v).2 not_kept
  · exact .inl ⟨rest, next⟩

/-- Settles O14, by the kind of the move: a rejection keeps DONE, a completion sets it, and a host write can clear it
only at STATUS or by an accepted command. -/
theorem doneRisesAndFalls : Obligations.DoneRisesAndFalls := by
  intro s t moved
  suffices kept_or_changed : t.done = s.done ∨
      (t.done = true ∧ s.engineNext = true ∧ s.busy = true ∧ t.busy = false ∧ t.err = s.err) ∨
      (t.done = false ∧ ((∃ w rest, s.inputs = .write 0x010 4 w :: rest ∧ t.busy = true ∧ t.pending = w) ∨
        (∃ v rest, s.inputs = .write 0x00C 4 v :: rest ∧ v.getLsbD 1 = true) ∨ ∃ rest, s.inputs = .reset :: rest)) by
    rcases kept_or_changed with kept | ⟨high, completion⟩ | ⟨low, cause⟩
    · exact ⟨fun low high => by simp [kept, low] at high, fun high low => by simp [kept, high] at low⟩
    · exact ⟨fun _ _ => completion, fun _ low => by simp [high] at low⟩
    · exact ⟨fun _ high => by simp [low] at high, fun _ _ => cause⟩
  rcases step_cases moved with ⟨-, -, rfl⟩ | ⟨-, -, e, -, rfl⟩ | ⟨engine, pending, i, -, ran⟩ |
    ⟨off, rest, -, -, -, rfl⟩ | ⟨off, v, rest, next, aligned, -, rfl⟩ | ⟨rest, next, rfl⟩
  · exact .inl rfl
  · exact .inl rfl
  · rcases exec_cases ran with ⟨e, -, rfl⟩ | ⟨-, rfl⟩
    · exact .inl rfl
    · exact .inr (.inl ⟨rfl, engine, pending, rfl, (commandEffect_keeps_error i _).1⟩)
  · exact .inl rfl
  · rcases hostWrite_done_cases (s.setInputs rest) off v with kept | ⟨low, ⟨status, bit⟩ | ⟨cmd, issued⟩⟩
    · exact .inl kept
    · obtain rfl := (atOffset_eq_status_iff aligned).mp status
      exact .inr (.inr ⟨low, .inr (.inl ⟨v, rest, next, bit⟩)⟩)
    · obtain rfl := (atOffset_eq_cmd_iff aligned).mp cmd
      exact .inr (.inr ⟨low, .inl ⟨v, rest, next, issued⟩⟩)
  · exact .inr (.inr ⟨rfl, .inr (.inr ⟨rest, next⟩)⟩)

/-- Settles O24: after reset the first failing check of a legal command is the one its error names, or there is none. -/
theorem commandsAfterReset : Obligations.CommandsAfterReset := by
  rintro ⟨pipe, most⟩ w i legal s expected
  have delivered : step s = exec i (s.setInputs []) := step_of_command rfl rfl legal
  have pipe_of : i.needsPipe = true → pipe = true := by
    obtain ⟨-, wf⟩ := encodeOfDecode pipe w i legal
    rw [← pipeOnly_opOf]
    exact ((wellFormed_iff pipe i).mp wf).1
  have first_check : expected = (firstError (commandChecks i (s.setInputs []))).map ErrCode.code := by
    cases i with
    | aese ksel slot => cases ksel <;> rfl
    | ctri src => cases src <;> rfl
    | hupd cls src slot n => cases cls <;> rfl
    | hupd6 cls src =>
      obtain rfl := pipe_of rfl
      cases cls <;> rfl
    | ctrx4 | ctrx8 =>
      obtain rfl := pipe_of rfl
      rfl
    | _ => rfl
  rw [delivered, first_check]
  cases checks : firstError (commandChecks i (s.setInputs [])) with
  | none =>
    refine ⟨_, exec_of_passing checks, rfl, fun _ => ⟨rfl, (commandEffect_keeps_error i _).1⟩, by simp⟩
  | some e =>
    refine ⟨_, exec_of_failing checks, rfl, by simp, fun c code => ?_⟩
    obtain rfl : e.code = c := Option.some.inj code
    exact ⟨rfl, rfl, rfl, rfl⟩

end Sys2Proof.Proofs
end

section
/-! PROOFS. The invariant (10_state.md R45, 60_exceptions.md R280): it holds after reset, and every operation, every
command's effect and so every step keeps it. Each lemma names the fields of `State.Inv` its operation touches; the
others are those of the state before. -/

namespace Sys2Proof.Machine

theorem inv_resetWith {p : Params} (wf : p.wf) : (State.resetWith p).Inv where
  params_wf := wf
  alen_le := Nat.zero_le _
  mlen_le := Nat.zero_le _
  session_has_key := fun session => absurd rfl session
  idle_is_clear := fun _ => ⟨rfl, rfl, rfl, rfl, rfl, rfl⟩
  table_of_session := fun _ session => absurd rfl session
  table_absent := fun _ => rfl
  subkey_of_master := nofun
  subkey_complete := nofun
  no_subkey_is_clear := fun _ => ⟨rfl, rfl, rfl⟩
  no_hash_key_is_clear := fun _ => rfl
  master_complete := nofun
  no_master_is_clear := fun _ => ⟨rfl, rfl⟩
  tag_of_subkey := nofun
  no_tag_is_clear := fun _ => rfl
  partial_has_counter := nofun
  no_counter_is_clear := fun _ => rfl
  counter_marked := nofun
  no_error_is_clear := fun _ => ⟨rfl, rfl⟩
  error_is_known := nofun
  busy_not_done := nofun

/-! ## Facts the effects need -/

section Absorbing
variable {s : State} {n : Nat} {cls : HashClass} (legal : s.CanAbsorb n cls)
include legal

theorem State.CanAbsorb.session : s.ph ≠ .idle := by
  intro idle
  cases cls <;> simp [State.CanAbsorb, idle] at legal

theorem State.CanAbsorb.session_after : (s.countBytes n cls).ph ≠ .idle := by
  cases cls with
  | aad => exact legal.session
  | message => exact nofun

theorem State.CanAbsorb.with_acc (x : Block) : ({ s with acc := x } : State).CanAbsorb n cls := by
  cases cls <;> exact legal

end Absorbing

/-- The mark of a counter block is above the word that counts. -/
theorem getLsbD_incBy_top (k : Nat) (c : Block) : (incBy k c).getLsbD 127 = c.getLsbD 127 := by
  have top_byte := congrArg (fun b : Byte => b.getLsbD 7) (byteAt_incBy_upper k c (i := 15) (by decide) (by decide))
  simpa [byteAt] using top_byte

namespace State.Inv
variable {s : State} (inv : s.Inv)
include inv

/-! ## Errors, completion and the host's accesses -/

theorem setInputs (l : List Input) : (s.setInputs l).Inv := { inv with }

theorem recordError (e : ErrCode) (info : Word) : (s.recordError e info).Inv :=
  { inv with no_error_is_clear := nofun, error_is_known := fun _ => ⟨e, rfl⟩ }

theorem reject (e : ErrCode) : (s.reject e).Inv :=
  { inv.recordError e s.pending with busy_not_done := nofun }

theorem clearError : s.clearError.Inv :=
  { inv with no_error_is_clear := fun _ => ⟨rfl, rfl⟩, error_is_known := nofun }

theorem clearDone : s.clearDone.Inv := { inv with busy_not_done := fun _ => rfl }

theorem accept (w : Word) : (s.accept w).Inv := { inv with busy_not_done := fun _ => rfl }

theorem complete : s.complete.Inv := { inv with busy_not_done := nofun }

theorem writeStatus (v : Word) : (s.writeStatus v).Inv := by
  unfold State.writeStatus
  cases v.getLsbD 1 <;> cases v.getLsbD 2
  · exact inv
  · exact inv.clearError
  · exact inv.clearDone
  · exact inv.clearDone.clearError

theorem hostRead (off : Nat) : (s.hostRead off).Inv := { inv with }

theorem hostWrite (off : Nat) (v : Word) : (s.hostWrite off v).Inv := by
  rcases hostWrite_cases s off v with written | written | written | ⟨-, written⟩ | ⟨-, -, written⟩ | ⟨k, written⟩ |
    ⟨n, written⟩ | ⟨d, written⟩ <;> rw [written]
  · exact inv
  · exact inv.recordError _ _
  · exact { inv with }
  · exact inv.writeStatus v
  · exact inv.accept v
  · exact { inv with }
  · exact { inv with }
  · exact { inv with }

theorem resetPulse : s.resetPulse.Inv := { inv_resetWith inv.params_wf with }

/-! ## The clear operations (10_state.md R47) -/

theorem hashClear : s.hashClear.Inv :=
  { inv with
    alen_le := Nat.zero_le _
    mlen_le := Nat.zero_le _
    session_has_key := fun session => absurd rfl session
    idle_is_clear := fun _ => ⟨rfl, rfl, rfl, rfl, rfl, rfl⟩
    table_of_session := fun _ session => absurd rfl session
    table_absent := fun _ => rfl }

theorem ctrClear : s.ctrClear.Inv :=
  { inv with
    tag_of_subkey := nofun
    no_tag_is_clear := fun _ => rfl
    partial_has_counter := nofun
    no_counter_is_clear := fun _ => rfl
    counter_marked := nofun }

theorem dataClear : s.dataClear.Inv := { inv with }

/-- The subkeys go when no session and no tag rests on them. -/
theorem subkeyClear (idle : s.ph = .idle) (no_tag : s.tv = false) : s.subkeyClear.Inv :=
  { inv with
    session_has_key := fun session => absurd idle session
    table_of_session := fun _ session => absurd idle session
    subkey_of_master := nofun
    subkey_complete := nofun
    no_subkey_is_clear := fun _ => ⟨rfl, rfl, rfl⟩
    no_hash_key_is_clear := fun _ => rfl
    tag_of_subkey := fun tag => by simp [no_tag] at tag }

/-- The three clear operations KEXP and ZERO begin with, in an order that keeps the invariant at each. -/
theorem ephemeralClear : s.subkeyClear.hashClear.ctrClear.Inv := inv.hashClear.ctrClear.subkeyClear rfl rfl

/-- The master key goes when no subkey rests on it. -/
theorem masterClear (no_subkey : s.sv = false) : s.masterClear.Inv :=
  { inv with
    subkey_of_master := fun subkey => by simp [no_subkey] at subkey
    master_complete := nofun
    no_master_is_clear := fun _ => ⟨rfl, rfl⟩ }

/-! ## The commands' effects -/

theorem kexpEffect (ksz : KeySize) : (s.kexpEffect ksz).Inv :=
  { inv.ephemeralClear with
    subkey_of_master := nofun
    master_complete := fun _ => ⟨s.key, rfl⟩
    no_master_is_clear := nofun }

theorem kdfEffect (keyed : s.kv = true) : s.kdfEffect.Inv :=
  { inv.hashClear.ctrClear with
    session_has_key := fun session => absurd rfl session
    table_of_session := fun _ session => absurd rfl session
    subkey_of_master := fun _ => ⟨keyed, rfl⟩
    subkey_complete := fun _ => ⟨rfl, rfl, fun size => by
      rw [show s.kdfEffect.ek = _ from derivedEK_of_aes128 size]
      exact extractLsb'_append_above (extractLsb'_append_above BitVec.extractLsb'_eq_self)⟩
    no_subkey_is_clear := nofun
    no_hash_key_is_clear := nofun
    tag_of_subkey := nofun }

theorem zeroise (scope : ZeroScope) : (s.zeroise scope).Inv := by
  cases scope with
  | ephemeral => exact inv.ephemeralClear.dataClear
  | all => exact inv.ephemeralClear.dataClear.masterClear rfl

theorem hkeyEffect (slot : Fin 8) : (s.hkeyEffect slot).Inv :=
  { inv.hashClear with
    session_has_key := fun _ => rfl
    table_of_session := fun _ session => absurd rfl session
    subkey_complete := fun subkey => by
      obtain ⟨-, schedule⟩ := inv.subkey_complete subkey
      exact ⟨rfl, schedule⟩
    no_hash_key_is_clear := nofun }

theorem hinitEffect (hm : HashMode) (loaded : s.hv = true) : (s.hinitEffect hm).Inv :=
  { inv.hashClear with
    session_has_key := fun _ => loaded
    idle_is_clear := nofun
    table_of_session := fun pipe _ => initTable_of_pipe hm pipe
    table_absent := fun absent => initTable_of_no_pipe hm (by simpa [State.hinitEffect] using absent) }

/-- In an open session ACC may take any value. -/
theorem writeAcc (session : s.ph ≠ .idle) (x : Block) : ({ s with acc := x } : State).Inv :=
  { inv with idle_is_clear := fun idle => absurd idle session }

/-- Absorbed bytes stay within MAX_LEN_BYTES, so no count wraps (41_uhash.md R163). -/
theorem countBytes {n : Nat} {cls : HashClass} (legal : s.CanAbsorb n cls) : (s.countBytes n cls).Inv := by
  have bounded (count : BitVec 64) (fits : count.toNat + n ≤ s.params.maxLenBytes) :
      (count + BitVec.ofNat 64 n).toNat ≤ s.params.maxLenBytes := by
    rw [BitVec.toNat_add, BitVec.toNat_ofNat]
    omega
  cases cls with
  | aad =>
    obtain ⟨phase, -, fits⟩ := legal
    exact { inv with
      alen_le := bounded _ fits
      idle_is_clear := fun idle => by simp [phase] at idle }
  | message =>
    obtain ⟨phase, -, fits⟩ := legal
    have session : s.ph ≠ .idle := by rintro idle; simp [idle] at phase
    exact { inv with
      mlen_le := bounded _ fits
      session_has_key := fun _ => inv.session_has_key session
      idle_is_clear := nofun
      table_of_session := fun pipe _ => inv.table_of_session pipe session
      table_absent := fun absent => inv.table_absent (.inl (absent.resolve_right (by simp))) }

theorem markPartial {n : Nat} {cls : HashClass} (session : s.ph ≠ .idle) : (s.markPartial n cls).Inv := by
  cases cls <;> exact { inv with idle_is_clear := fun idle => absurd idle session }

theorem hupdEffect {cls : HashClass} (src : DataSource) (slot : Fin 8) {n : Nat} (legal : s.CanAbsorb n cls) :
    (s.hupdEffect cls src slot n).Inv :=
  ((inv.writeAcc legal.session _).countBytes (legal.with_acc _)).markPartial (legal.with_acc _).session_after

theorem hupd6Effect {cls : HashClass} (src : DataSource) (legal : s.CanAbsorb 96 cls) :
    (s.hupd6Effect cls src).Inv :=
  (inv.writeAcc legal.session _).countBytes (legal.with_acc _)

theorem hlenEffect (session : s.ph ≠ .idle) : s.hlenEffect.Inv :=
  { inv with
    session_has_key := fun _ => inv.session_has_key session
    idle_is_clear := nofun
    table_of_session := fun pipe _ => inv.table_of_session pipe session
    table_absent := fun absent => inv.table_absent (.inl (absent.resolve_right (by simp [State.hlenEffect]))) }

theorem tagfEffect (derived : s.sv = true) : s.tagfEffect.Inv :=
  { inv with
    tag_of_subkey := fun _ => derived
    no_tag_is_clear := nofun }

theorem ctriEffect (src : SeedSource) : (s.ctriEffect src).Inv :=
  { inv with
    partial_has_counter := nofun
    no_counter_is_clear := nofun
    counter_marked := fun _ => by simp [State.ctriEffect, getLsbD_setTopBit] }

/-- A running counter may advance, with any output and either value of CPART. -/
theorem advance (counting : s.cv = true) (d : Vector Block 8) (k : Nat) (closed : Bool) :
    ({ s with dout := d, ctr := incBy k s.ctr, cpart := closed } : State).Inv :=
  { inv with
    partial_has_counter := fun _ => counting
    no_counter_is_clear := fun no_counter => by simp [counting] at no_counter
    counter_marked := fun _ => (getLsbD_incBy_top k s.ctr).trans (inv.counter_marked counting) }

theorem commandEffect {i : Instr} (ok : Passes i s) : (commandEffect i s).Inv := by
  cases i with
  | nop => exact inv
  | kexp ksz => exact inv.kexpEffect ksz
  | kdf => exact inv.kdfEffect ok.kdf
  | aese ksel slot => exact { inv with }
  | hkey slot => exact inv.hkeyEffect slot
  | hinit hm => exact inv.hinitEffect hm ok.hinit
  | hupd cls src slot n => exact inv.hupdEffect src slot ok.hupd
  | hupd6 cls src =>
    obtain ⟨-, legal⟩ := ok.hupd6
    exact inv.hupd6Effect src legal
  | hlen =>
    obtain ⟨session, -⟩ := ok.hlen
    exact inv.hlenEffect session
  | tagf =>
    obtain ⟨derived, -⟩ := ok.tagf
    exact inv.tagfEffect derived
  | ctri src => exact inv.ctriEffect src
  | ctrx1 slot n =>
    obtain ⟨-, counting, -⟩ := ok.ctrx1
    exact inv.advance counting _ 1 _
  | ctrx4 =>
    obtain ⟨-, counting, -⟩ := ok.batch (.inl ⟨rfl, rfl⟩)
    exact inv.advance counting _ 4 _
  | ctrx8 =>
    obtain ⟨-, counting, -⟩ := ok.batch (.inr ⟨rfl, rfl⟩)
    exact inv.advance counting _ 8 _
  | zero scope => exact inv.zeroise scope

theorem exec {i : Instr} {t : State} (ran : exec i s = .next t) : t.Inv := by
  rcases exec_cases ran with ⟨e, -, rfl⟩ | ⟨ok, rfl⟩
  · exact inv.reject e
  · exact (inv.commandEffect ok).complete

theorem step {t : State} (moved : step s = .next t) : t.Inv := by
  rcases step_cases moved with ⟨-, -, rfl⟩ | ⟨-, -, e, -, rfl⟩ | ⟨-, -, i, -, ran⟩ | ⟨off, rest, -, -, -, rfl⟩ |
    ⟨off, v, rest, -, -, -, rfl⟩ | ⟨rest, -, rfl⟩
  · exact inv.setInputs _
  · exact (inv.setInputs _).reject _
  · exact (inv.setInputs _).exec ran
  · exact (inv.setInputs rest).hostRead off
  · exact (inv.setInputs rest).hostWrite off v
  · exact (inv.setInputs rest).resetPulse

end State.Inv

end Sys2Proof.Machine

namespace Sys2Proof.Proofs
open Sys2Proof.Machine

/-- Settles O9, field by field of the reset state. -/
theorem invAfterReset : Obligations.InvAfterReset := fun _ => inv_resetWith

/-- Settles O10: every move is made of operations that keep the invariant (`State.Inv.step`). -/
theorem stepKeepsInv : Obligations.StepKeepsInv := fun _ _ inv moved => inv.step moved

end Sys2Proof.Proofs
end

section
/-! PROOFS. Two machines compared: equal but for PIPE and HTAB (45_control.md R245), and equal but for what the host
cannot read (20_memory.md R69). In both, an operation that commutes with the blanking takes states that agree to states
that agree. -/

namespace Sys2Proof.Machine

/-! ## Operations that keep an agreement -/

/-- Blanking the argument of f does not show once its result is blanked. -/
def Respects (blank f : State → State) : Prop := ∀ s, blank (f (blank s)) = blank (f s)

section Agreement
variable {blank f : State → State} {s t : State} (agreed : blank s = blank t)
include agreed

theorem Respects.agree (respects : Respects blank f) : blank (f s) = blank (f t) := by
  rw [← respects s, agreed, respects t]

/-- What blanking keeps is equal in states that agree. -/
theorem eq_of_agree {α : Type} (observe : State → α) (kept : ∀ s, observe (blank s) = observe s) :
    observe s = observe t := by
  rw [← kept s, agreed, kept t]

end Agreement

/-! ## The host's accesses under either blanking -/

def IsBlanking (blank : State → State) : Prop := blank = State.blankPipe ∨ blank = State.blankHidden

section Blanking
variable {blank : State → State} (blanking : IsBlanking blank)
include blanking

/-- A read respects a blanking that its register's value does not show. -/
theorem respects_hostRead {off : Nat}
    (same_value : ∀ s, (blank s).regValue (Reg.atOffset off) = s.regValue (Reg.atOffset off)) :
    Respects blank (State.hostRead · off) := by
  intro s
  have same_read : (blank s).readValue (Reg.atOffset off) = s.readValue (Reg.atOffset off) := by
    rw [State.readValue, State.readValue, same_value]
    rcases blanking with rfl | rfl <;> rfl
  dsimp only [State.hostRead]
  rw [same_read]
  rcases blanking with rfl | rfl <;> rfl

theorem respects_writeReg (v : Word) (r : Reg) : Respects blank (State.writeReg · v r) := by
  intro s
  cases r with
  | status => rcases blanking with rfl | rfl <;> simp [State.writeReg, writeStatus_eq, State.blankPipe, State.blankHidden]
  | cmd =>
    have same_err : (blank s).err = s.err := by rcases blanking with rfl | rfl <;> rfl
    simp only [State.writeReg, State.issue, same_err]
    split <;> rcases blanking with rfl | rfl <;> rfl
  | _ => rcases blanking with rfl | rfl <;> rfl

theorem respects_hostWrite (off : Nat) (v : Word) : Respects blank (State.hostWrite · off v) := by
  intro s
  have same_busy : (blank s).busy = s.busy := by rcases blanking with rfl | rfl <;> rfl
  simp only [State.hostWrite, same_busy]
  split
  · rcases blanking with rfl | rfl <;> rfl
  · exact respects_writeReg blanking v _ s

end Blanking

/-! ## PIPE and HTAB: commands -/

/-- The checks of a command that exists with PIPE = 0 do not look at PIPE or HTAB. -/
theorem commandChecks_blankPipe {i : Instr} (portable : i.needsPipe = false) (s : State) :
    commandChecks i s.blankPipe = commandChecks i s := by
  cases i with
  | hupd cls src slot n => cases cls <;> rfl
  | hupd6 | ctrx4 | ctrx8 => cases portable
  | aese ksel slot => cases ksel <;> rfl
  | ctri src => cases src <;> rfl
  | _ => rfl

theorem derivedH_blankPipe (s : State) : s.blankPipe.derivedH = s.derivedH := rfl

theorem derivedEK_blankPipe (s : State) : s.blankPipe.derivedEK = s.derivedEK := rfl

/-- No effect of such a command reads PIPE or HTAB into another field. -/
theorem respects_blankPipe_commandEffect {i : Instr} (portable : i.needsPipe = false) :
    Respects State.blankPipe (commandEffect i) := by
  intro s
  cases i with
  | kexp ksz => simp [commandEffect, State.kexpEffect, State.blankPipe]
  | kdf =>
    simp only [commandEffect, State.kdfEffect, derivedH_blankPipe, derivedEK_blankPipe]
    simp [State.blankPipe]
  | aese ksel slot => cases ksel <;> rfl
  | hupd cls src slot n => cases cls <;> cases src <;> rfl
  | hupd6 | ctrx4 | ctrx8 => cases portable
  | ctri src => cases src <;> rfl
  | zero scope => cases scope <;> simp [commandEffect, State.zeroise, State.blankPipe]
  | _ => rfl

theorem respects_blankPipe_complete : Respects State.blankPipe State.complete := fun _ => rfl

theorem respects_blankPipe_reject (e : ErrCode) : Respects State.blankPipe (State.reject · e) := fun _ => rfl

theorem exec_agree_blankPipe {i : Instr} (portable : i.needsPipe = false) {s t s' : State}
    (agree : s.blankPipe = t.blankPipe) (ran : exec i s = .next s') :
    ∃ t', exec i t = .next t' ∧ s'.blankPipe = t'.blankPipe := by
  have checks := eq_of_agree agree (commandChecks i) (commandChecks_blankPipe portable)
  rcases exec_cases ran with ⟨e, failed, rfl⟩ | ⟨ok, rfl⟩
  · rw [checks] at failed
    exact ⟨_, exec_of_failing failed, (respects_blankPipe_reject e).agree agree⟩
  · rw [Passes, checks] at ok
    exact ⟨_, exec_of_passing ok,
      respects_blankPipe_complete.agree ((respects_blankPipe_commandEffect portable).agree agree)⟩

/-! ## PIPE and HTAB: reads -/

theorem regValue_blankPipe (s : State) {r : Reg} (not_cap : r ≠ .cap) : s.blankPipe.regValue r = s.regValue r := by
  cases r with
  | cap => exact absurd rfl not_cap
  | _ => rfl

theorem respects_blankPipe_hostRead {off : Nat} (not_cap : Reg.atOffset off ≠ .cap) :
    Respects State.blankPipe (State.hostRead · off) :=
  respects_hostRead (.inl rfl) fun s => regValue_blankPipe s not_cap

/-! ## The decoder and PIPE -/

/-- PIPE matters to the decoder for the three PIPE-only opcodes alone. -/
theorem decode_pipe_irrelevant {w : Word} (portable : opField w ∉ ([0x13, 0x32, 0x33] : List Byte)) (p q : Bool) :
    decode p w = decode q w := by
  unfold decode
  cases found : Op.ofByte (opField w) with
  | none => rfl
  | some op =>
    have not_multi : op.pipeOnly = false := by
      rw [← Bool.not_eq_true, pipeOnly_iff, (ofByte_eq_some_iff _ _).mp found]
      exact portable
    simp only [not_multi, Bool.false_and]

theorem needsPipe_of_decode {pipe : Bool} {w : Word} {i : Instr} (legal : decode pipe w = .ok i)
    (portable : opField w ∉ ([0x13, 0x32, 0x33] : List Byte)) : i.needsPipe = false := by
  obtain ⟨op, row, -, -, operands⟩ := (decode_eq_ok_iff pipe w i).mp legal
  obtain ⟨rfl, -⟩ := decodeOperands_row operands
  rwa [← pipeOnly_opOf, ← Bool.not_eq_true, pipeOnly_iff, row]

/-! ## What the host cannot read -/

theorem regValue_blankHidden (s : State) (r : Reg) : s.blankHidden.regValue r = s.regValue r := by
  cases r <;> rfl

theorem respects_blankHidden_hostRead (off : Nat) : Respects State.blankHidden (State.hostRead · off) :=
  respects_hostRead (.inr rfl) fun s => regValue_blankHidden s _

theorem hostAccess_refused_iff (off size : Nat) (t : State) (r : Refusal) :
    hostAccess off size t = .refused r ↔ accessRefusal off size = some r := by
  unfold hostAccess
  cases accessRefusal off size <;> simp

/-- Whether a move of the outside world is refused does not depend on the state. -/
theorem takeInput_refused_iff {input : Input} (outside : input ≠ .engine) (s t : State) (r : Refusal) :
    takeInput input s = .refused r ↔ takeInput input t = .refused r := by
  cases input with
  | engine => exact absurd rfl outside
  | read off size => exact (hostAccess_refused_iff ..).trans (hostAccess_refused_iff ..).symm
  | write off size v => exact (hostAccess_refused_iff ..).trans (hostAccess_refused_iff ..).symm
  | reset => exact ⟨nofun, nofun⟩

end Sys2Proof.Machine

namespace Sys2Proof.Proofs
open Sys2Proof.Machine

/-- Settles O31, by the kind of the move: each takes states equal but for PIPE and HTAB to such states. -/
theorem pathEquivalence : Obligations.PathEquivalence := by
  intro s t s' agree portable moved
  have inputs : s.inputs = t.inputs := eq_of_agree agree State.inputs fun _ => rfl
  have busy : s.busy = t.busy := eq_of_agree agree State.busy fun _ => rfl
  have pending : s.pending = t.pending := eq_of_agree agree State.pending fun _ => rfl
  have engineNext : s.engineNext = t.engineNext := eq_of_agree agree State.engineNext fun _ => rfl
  have advanced (l : List Input) : (s.setInputs l).blankPipe = (t.setInputs l).blankPipe :=
    Respects.agree (f := (State.setInputs · l)) agree fun _ => rfl
  have portable_word (engine : s.engineNext = true) (running : s.busy = true) :
      opField s.pending ∉ ([0x13, 0x32, 0x33] : List Byte) := by
    simpa [State.portableMove, engine, running, and_assoc] using portable
  rcases step_cases moved with ⟨engine, idle, rfl⟩ | ⟨engine, running, e, bad, rfl⟩ | ⟨engine, running, i, legal, ran⟩ |
    ⟨off, rest, next, aligned, inside, rfl⟩ | ⟨off, v, rest, next, aligned, inside, rfl⟩ | ⟨rest, next, rfl⟩
  · refine ⟨_, step_of_idle (engineNext ▸ engine) (busy ▸ idle), ?_⟩
    rw [inputs]
    exact advanced _
  · have bad' : decode t.params.pipe t.pending = .error e := by
      rw [← pending, ← bad]
      exact decode_pipe_irrelevant (portable_word engine running) _ _
    refine ⟨_, step_of_undecodable (engineNext ▸ engine) (busy ▸ running) bad', ?_⟩
    rw [inputs]
    exact (respects_blankPipe_reject _).agree (advanced _)
  · have legal' : decode t.params.pipe t.pending = .ok i := by
      rw [← pending, ← legal]
      exact decode_pipe_irrelevant (portable_word engine running) _ _
    rw [step_of_command (engineNext ▸ engine) (busy ▸ running) legal', ← inputs]
    exact exec_agree_blankPipe (needsPipe_of_decode legal (portable_word engine running)) (advanced _) ran
  · have not_cap : Reg.atOffset off ≠ .cap := by
      rw [ne_eq, atOffset_eq_cap_iff aligned]
      rintro rfl
      simp [State.portableMove, State.engineNext, next] at portable
    exact ⟨_, step_of_read (inputs ▸ next) aligned inside,
      (respects_blankPipe_hostRead not_cap).agree (advanced rest)⟩
  · exact ⟨_, step_of_write (inputs ▸ next) aligned inside,
      (respects_hostWrite (.inl rfl) off v).agree (advanced rest)⟩
  · exact ⟨_, step_of_reset (inputs ▸ next),
      Respects.agree (f := State.resetPulse) (advanced rest) fun _ => rfl⟩

/-- Settles O25: the moves of the outside world respect the blanking of what the host cannot read, and the record of
reads is not blanked. -/
theorem hostAccessHidesSecrets : Obligations.HostAccessHidesSecrets := by
  intro s t input rest agree next outside
  have inputs : s.inputs = t.inputs := eq_of_agree agree State.inputs fun _ => rfl
  have next' : t.inputs = input :: rest := inputs ▸ next
  have advanced : (s.setInputs rest).blankHidden = (t.setInputs rest).blankHidden :=
    Respects.agree (f := (State.setInputs · rest)) agree fun _ => rfl
  refine ⟨fun r => ?refusals, fun s' moved => ?moves⟩
  case refusals =>
    rw [step_of_input next, step_of_input next']
    exact takeInput_refused_iff outside _ _ r
  case moves =>
    suffices agreeing : ∃ t', step t = .next t' ∧ s'.blankHidden = t'.blankHidden by
      obtain ⟨t', moved', agree'⟩ := agreeing
      exact ⟨t', moved', agree', eq_of_agree agree' State.reads fun _ => rfl⟩
    have not_engine : s.engineNext ≠ true := by
      cases input <;> simp [State.engineNext, next] at outside ⊢
    rcases step_cases moved with ⟨engine, -⟩ | ⟨engine, -⟩ | ⟨engine, -⟩ | ⟨off, rest', read, aligned, inside, rfl⟩ |
      ⟨off, v, rest', write, aligned, inside, rfl⟩ | ⟨rest', reset, rfl⟩
    · exact absurd engine not_engine
    · exact absurd engine not_engine
    · exact absurd engine not_engine
    · obtain ⟨rfl, rfl⟩ := List.cons.inj (next.symm.trans read)
      exact ⟨_, step_of_read next' aligned inside, (respects_blankHidden_hostRead off).agree advanced⟩
    · obtain ⟨rfl, rfl⟩ := List.cons.inj (next.symm.trans write)
      exact ⟨_, step_of_write next' aligned inside, (respects_hostWrite (.inr rfl) off v).agree advanced⟩
    · obtain ⟨rfl, rfl⟩ := List.cons.inj (next.symm.trans reset)
      exact ⟨_, step_of_reset next', Respects.agree (f := State.resetPulse) advanced fun _ => rfl⟩

end Sys2Proof.Proofs
end

section
/-! PROOFS. The register window word by word (10_state.md R23 to R37; 20_memory.md R62, R67, R68; 60_exceptions.md R269;
70_reset_and_hazards.md R295): the STATUS fields, the lanes of the data registers, and what a read returns. -/

namespace Sys2Proof.Machine

open Sys2Proof.Statements (guardedOffset writableOffset)

/-! ## STATUS (10_state.md R27) -/

theorem irq_iff (s : State) :
    s.irq = true ↔ (s.done = true ∧ s.ieDone = true) ∨ (s.err = true ∧ s.ieErr = true) := by
  simp [State.irq]

theorem statusWord_low_flags (s : State) : s.statusWord.getLsbD 0 = s.busy ∧ s.statusWord.getLsbD 1 = s.done ∧
    s.statusWord.getLsbD 2 = s.err ∧ s.statusWord.getLsbD 3 = s.irq := by
  simp only [State.statusWord, BitVec.getLsbD_append]
  simp

theorem statusWord_valid_flags (s : State) : s.statusWord.getLsbD 16 = s.kv ∧ s.statusWord.getLsbD 17 = s.sv ∧
    s.statusWord.getLsbD 18 = s.hv ∧ s.statusWord.getLsbD 19 = s.tv := by
  simp only [State.statusWord, BitVec.getLsbD_append]
  simp

theorem statusWord_session_flags (s : State) : s.statusWord.getLsbD 22 = decide (s.hmode = .ghash) ∧
    s.statusWord.getLsbD 23 = s.apart ∧ s.statusWord.getLsbD 24 = s.mpart ∧ s.statusWord.getLsbD 25 = s.cv ∧
    s.statusWord.getLsbD 26 = s.cpart ∧ s.statusWord.getLsbD 27 = decide (s.mksz = .aes256) := by
  have mode_bit : s.hmode.bit.getLsbD 0 = decide (s.hmode = .ghash) := by cases s.hmode <;> rfl
  have size_bit : s.mksz.bit.getLsbD 0 = decide (s.mksz = .aes256) := by cases s.mksz <;> rfl
  rw [← mode_bit, ← size_bit]
  simp only [State.statusWord, BitVec.getLsbD_append]
  simp

theorem statusWord_errcode (s : State) : s.statusWord.extractLsb' 8 8 = s.errcode :=
  extractLsb'_append_above <| extractLsb'_append_above <| extractLsb'_append_above <| extractLsb'_append_above <|
    extractLsb'_append_above BitVec.extractLsb'_append_eq_right

theorem statusWord_ph (s : State) : s.statusWord.extractLsb' 20 2 = s.ph.code :=
  extractLsb'_append_above <| extractLsb'_append_above <| extractLsb'_append_above <| extractLsb'_append_above <|
    extractLsb'_append_above <| extractLsb'_append_above <| extractLsb'_append_above <| extractLsb'_append_above <|
    extractLsb'_append_above <| extractLsb'_append_above BitVec.extractLsb'_append_eq_right

theorem statusWord_reserved (s : State) : s.statusWord.extractLsb' 4 4 = 0 ∧ s.statusWord.extractLsb' 28 4 = 0 := by
  constructor
  · exact extractLsb'_append_above <| extractLsb'_append_above <| extractLsb'_append_above <|
      extractLsb'_append_above BitVec.extractLsb'_append_eq_right
  · apply BitVec.eq_of_getLsbD_eq
    intro b hb
    match b, hb with
    | 0, _ | 1, _ | 2, _ | 3, _ =>
      simp only [State.statusWord, BitVec.getLsbD_extractLsb', BitVec.getLsbD_append]
      simp

/-! ## Free values (70_reset_and_hazards.md R295) -/

theorem drawBits_allOnes (v free : Word) : drawBits 0xFFFFFFFF v free = free := by
  have ones : (0xFFFFFFFF : Word) = BitVec.allOnes 32 := rfl
  rw [drawBits, ones, BitVec.not_allOnes, BitVec.and_zero, BitVec.zero_or, BitVec.and_allOnes]

theorem getLsbD_drawBits (mask v free : Word) {b : Nat} (inside : b < 32) :
    (drawBits mask v free).getLsbD b = if mask.getLsbD b then free.getLsbD b else v.getLsbD b := by
  simp only [drawBits, BitVec.getLsbD_or, BitVec.getLsbD_and, BitVec.getLsbD_not, inside, decide_true, Bool.true_and]
  cases mask.getLsbD b <;> simp

/-- Bits 27:16 of STATUS are free while BUSY = 1, the others keep their value. -/
theorem getLsbD_readValue_status {s : State} (pending : s.busy = true) {b : Nat} (inside : b < 28) :
    (s.readValue .status).getLsbD b =
      if b < 16 then s.statusWord.getLsbD b else (Config.freeWord s.draws).getLsbD b := by
  have mask : ∀ b < 28, (0x0FFF0000 : Word).getLsbD b = decide (16 ≤ b) := by decide
  simp only [State.readValue, pending, if_true, Reg.drawnBits, State.regValue,
    getLsbD_drawBits _ _ _ (show b < 32 by omega), mask b inside, decide_eq_true_eq]
  by_cases low : b < 16
  · rw [if_pos low, if_neg (Nat.not_le.mpr low)]
  · rw [if_neg low, if_pos (Nat.le_of_not_lt low)]

theorem readValue_of_drawn {s : State} (pending : s.busy = true) {r : Reg} (drawn : r.drawnBits = 0xFFFFFFFF) :
    s.readValue r = Config.freeWord s.draws := by
  simp only [State.readValue, pending, if_true, drawn, drawBits_allOnes]

/-! ## The map -/

theorem atOffset_eq_ctrl_iff {off : Nat} (aligned : off % 4 = 0) : Reg.atOffset off = .ctrl ↔ off = 0x008 := by
  simp only [Reg.atOffset, ite_eq_iff, reduceCtorEq, and_false, and_true, or_false, false_or]
  omega

theorem atOffset_word :
    (∀ i < 8, Reg.atOffset (0x040 + 4 * i) = .key i) ∧ (∀ i < 3, Reg.atOffset (0x060 + 4 * i) = .nonce i) ∧
    (∀ i < 4, Reg.atOffset (0x070 + 4 * i) = .tag i ∧ Reg.atOffset (0x080 + 4 * i) = .acc i ∧
      Reg.atOffset (0x090 + 4 * i) = .ctr i) := by decide

theorem atOffset_slot_word : ∀ i < 4, ∀ j : Fin 8, Reg.atOffset (0x100 + 16 * j.val + 4 * i) = .din j i ∧
    Reg.atOffset (0x180 + 16 * j.val + 4 * i) = .dout j i := by decide

/-- The registers whose reads are never free: ID, CAP, CTRL, ERRINFO, NONCE and DIN. -/
theorem drawnBits_eq_zero_of_kept {off : Nat} (kept : off ∈ [0x000, 0x004, 0x008, 0x014] ∨ (0x060 ≤ off ∧ off < 0x06C) ∨
    (0x100 ≤ off ∧ off < 0x180)) : (Reg.atOffset off).drawnBits = 0 := by
  rcases kept with listed | ⟨lo, hi⟩ | ⟨lo, hi⟩
  · revert off
    decide
  · simp (disch := omega) only [Reg.atOffset, if_neg, if_pos, Reg.drawnBits]
  · simp (disch := omega) only [Reg.atOffset, if_neg, if_pos, Reg.drawnBits]

/-- The registers whose reads are free while BUSY = 1: ALEN, MLEN, TAG, ACC, CTR and DOUT. -/
theorem drawnBits_eq_allOnes_of_drawn {off : Nat}
    (drawn : (0x018 ≤ off ∧ off < 0x028) ∨ (0x070 ≤ off ∧ off < 0x0A0) ∨ 0x180 ≤ off) :
    (Reg.atOffset off).drawnBits = 0xFFFFFFFF := by
  rcases drawn with ⟨lo, hi⟩ | ⟨lo, hi⟩ | lo
  · rcases Nat.lt_or_ge off 0x020 with alen | mlen <;>
      simp (disch := omega) only [Reg.atOffset, if_neg, if_pos, Reg.drawnBits]
  · rcases Nat.lt_or_ge off 0x080 with tag | above
    · simp (disch := omega) only [Reg.atOffset, if_neg, if_pos, Reg.drawnBits]
    · rcases Nat.lt_or_ge off 0x090 with acc | ctr <;>
        simp (disch := omega) only [Reg.atOffset, if_neg, if_pos, Reg.drawnBits]
  · simp (disch := omega) only [Reg.atOffset, if_neg, Reg.drawnBits]

/-! ## Lanes (20_memory.md R62) -/

/-- Byte k of word i is byte 4i+k of the field. -/
theorem byteAt_wordAt {w : Nat} (b : BitVec w) (i : Nat) {k : Nat} (lane : k < 4) :
    byteAt (wordAt b i) k = byteAt b (4 * i + k) := by
  apply BitVec.eq_of_getLsbD_eq
  intro c hc
  simp [byteAt, wordAt, hc, show 8 * k + c < 32 by omega, show 32 * i + (8 * k + c) = 8 * (4 * i + k) + c by omega]

/-- A register without drawn bits shows its bytes whatever BUSY is. -/
theorem read_lane_of_undrawn {w : Nat} {s : State} {r : Reg} {field : BitVec w} {i : Nat} (kept : r.drawnBits = 0)
    (shown : s.regValue r = wordAt field i) {k : Nat} (lane : k < 4) :
    byteAt (s.readValue r) k = byteAt field (4 * i + k) := by
  rw [readValue_of_undrawn s kept, shown, byteAt_wordAt field i lane]

theorem read_lane_of_not_busy {w : Nat} {s : State} {r : Reg} {field : BitVec w} {i : Nat} (idle : s.busy = false)
    (shown : s.regValue r = wordAt field i) {k : Nat} (lane : k < 4) :
    byteAt (s.readValue r) k = byteAt field (4 * i + k) := by
  rw [readValue_of_not_busy idle, shown, byteAt_wordAt field i lane]

/-! ## Writes that are ignored -/

theorem writeReg_of_unwritable {s : State} (v : Word) {r : Reg} (unguarded : r.busyGuarded = false)
    (not_ctrl : r ≠ .ctrl) (not_status : r ≠ .status) : s.writeReg v r = s := by
  cases r with
  | ctrl => exact absurd rfl not_ctrl
  | status => exact absurd rfl not_status
  | cmd | key _ | nonce _ | din _ _ => cases unguarded
  | _ => rfl

end Sys2Proof.Machine

namespace Sys2Proof.Proofs
open Sys2Proof.Machine

/-- Settles O15: STATUS bit 3 is no drawn bit, so it reads the level also while BUSY = 1. -/
theorem irqFollowsEnables : Obligations.IrqFollowsEnables := by
  intro s
  obtain ⟨-, -, -, irq_bit⟩ := statusWord_low_flags s
  refine ⟨irq_iff s, ?_⟩
  show (s.readValue .status).getLsbD 3 = s.irq
  cases busy : s.busy with
  | false => rwa [readValue_of_not_busy busy]
  | true => rwa [getLsbD_readValue_status busy (by decide), if_pos (by decide)]

/-- Settles O16, field by field of the STATUS word. -/
theorem statusFields : Obligations.StatusFields := by
  intro s idle
  obtain ⟨busy, done, err, irq⟩ := statusWord_low_flags s
  obtain ⟨kv, sv, hv, tv⟩ := statusWord_valid_flags s
  obtain ⟨reserved_low, reserved_high⟩ := statusWord_reserved s
  have value : s.readValue (Reg.atOffset 0x00C) = s.statusWord := readValue_of_not_busy idle .status
  have phase : s.statusWord.extractLsb' 20 2 =
      (match s.ph with | .idle => 0 | .aad => 1 | .msg => 2 | .final => 3) := by
    rw [statusWord_ph]
    cases s.ph <;> rfl
  rw [value]
  obtain ⟨hmode, apart, mpart, cv, cpart, mksz⟩ := statusWord_session_flags s
  exact ⟨busy.trans idle, done, err, irq, reserved_low, statusWord_errcode s, kv, sv, hv, tv, phase, hmode, apart,
    mpart, cv, cpart, mksz, reserved_high⟩

/-- Settles O17: the register at each offset, whether its bits are drawn, and the lanes of its field. -/
theorem readsWhileBusy : Obligations.ReadsWhileBusy := by
  intro s read
  obtain ⟨-, nonce_at, word_at⟩ := atOffset_word
  refine ⟨⟨?errinfo, fun i k lane => ⟨fun word => ?nonce, fun j word => ?din⟩⟩, fun idle =>
    ⟨?counts, fun i k word lane => ?blocks, fun off _ _ => readValue_of_not_busy idle _⟩,
    fun pending off inside aligned => ⟨fun kept => ?kept, fun is_status b low => ?status, fun drawn => ?drawn⟩⟩
  case errinfo => exact readValue_of_undrawn s rfl
  case nonce =>
    simp only [read, nonce_at i word]
    exact read_lane_of_undrawn rfl rfl lane
  case din =>
    obtain ⟨din_at, -⟩ := atOffset_slot_word i word j
    simp only [read, din_at]
    exact read_lane_of_undrawn rfl rfl lane
  case counts =>
    refine ⟨?_, ?_, ?_, ?_⟩ <;> exact readValue_of_not_busy idle _
  case blocks =>
    obtain ⟨tag_at, acc_at, ctr_at⟩ := word_at i word
    simp only [read, tag_at, acc_at, ctr_at]
    refine ⟨read_lane_of_not_busy idle rfl lane, read_lane_of_not_busy idle rfl lane,
      read_lane_of_not_busy idle rfl lane, fun j => ?_⟩
    obtain ⟨-, dout_at⟩ := atOffset_slot_word i word j
    rw [dout_at]
    exact read_lane_of_not_busy idle rfl lane
  case kept => exact readValue_of_undrawn s (drawnBits_eq_zero_of_kept kept)
  case status =>
    subst is_status
    exact getLsbD_readValue_status pending low
  case drawn => exact readValue_of_drawn pending (drawnBits_eq_allOnes_of_drawn drawn)

/-- Settles O19: a read is one record update, and the register at an offset that is not writable ignores the write. -/
theorem readsAndIgnoredWritesChangeNothing : Obligations.ReadsAndIgnoredWritesChangeNothing := by
  intro s off v inside aligned
  refine ⟨rfl, fun unwritable => ?_⟩
  have unguarded : (Reg.atOffset off).busyGuarded = false := by
    rw [← Bool.not_eq_true, busyGuarded_atOffset_iff aligned inside]
    exact fun guarded => unwritable (.inr (.inr guarded))
  rw [hostWrite_of_unguarded s v unguarded]
  refine writeReg_of_unwritable v unguarded (fun ctrl => ?_) fun status => ?_
  · exact unwritable (.inl ((atOffset_eq_ctrl_iff aligned).mp ctrl))
  · exact unwritable (.inr (.inl ((atOffset_eq_status_iff aligned).mp status)))

/-- Settles O20: the register at the offset is word i of slot j, and the write replaces that word. -/
theorem dinWordLanes : Obligations.DinWordLanes := by
  intro s j i k v idle word lane off t
  obtain ⟨din_at, -⟩ := atOffset_slot_word i word j
  have written : t = { s with din := s.din.set j (setWordAt s.din[j] i v) } := by
    rw [show t = s.writeReg v (Reg.atOffset off) from hostWrite_of_not_busy off v idle, din_at]
    rfl
  have slot : t.din[j] = setWordAt s.din[j] i v := by simp [written]
  refine ⟨?read_back, ?bytes, fun b inside other => ?other_bytes, fun j' other => ?other_slots, ?frame⟩
  case read_back =>
    have shown : t.regValue (.din j i) = wordAt t.din[j] i := rfl
    rw [din_at, readValue_of_undrawn t rfl, shown, slot, wordAt_setWordAt_same _ _ _ (by omega)]
  case bytes => rw [slot, byteAt_setWordAt_same _ _ _ _ (by omega) lane]
  case other_bytes => rw [slot, byteAt_setWordAt_other _ _ _ _ (by omega) other]
  case other_slots => simp [written, Fin.val_ne_of_ne other.symm]
  case frame => rw [written]

/-- Settles O21: the registers at the two ranges of offsets are the words of KEY and NONCE, and a write replaces one. -/
theorem keyAndNonceWordLanes : Obligations.KeyAndNonceWordLanes := by
  intro s i k v idle lane
  obtain ⟨key_at, nonce_at, -⟩ := atOffset_word
  refine ⟨fun word => ?key, fun word => ?nonce⟩
  case key =>
    intro t
    have written : t = { s with key := setWordAt s.key i v } := by
      rw [show t = s.writeReg v _ from hostWrite_of_not_busy _ v idle, key_at i word]
      rfl
    refine ⟨?_, fun b inside other => ?_, ?_, ?_⟩
    · rw [written, byteAt_setWordAt_same _ _ _ _ (by omega) lane]
    · rw [written, byteAt_setWordAt_other _ _ _ _ (by omega) other]
    · rw [written]
    · rw [key_at i word]
      exact readValue_of_undrawn t rfl
  case nonce =>
    intro t
    have written : t = { s with nonce := setWordAt s.nonce i v } := by
      rw [show t = s.writeReg v _ from hostWrite_of_not_busy _ v idle, nonce_at i word]
      rfl
    refine ⟨?_, fun b inside other => ?_, ?_, ?_⟩
    · rw [written, byteAt_setWordAt_same _ _ _ _ (by omega) lane]
    · rw [written, byteAt_setWordAt_other _ _ _ _ (by omega) other]
    · rw [written]
    · rw [nonce_at i word, written]
      exact (readValue_of_undrawn _ rfl).trans (wordAt_setWordAt_same _ _ _ (by omega))

end Sys2Proof.Proofs
end

section
/-! PROOFS. The hash products (41_uhash.md R151 to R158, R167): the GHASH loop as a commutative and associative product
with an identity, both products as the field products of their polynomials, and the aggregated update. -/

namespace Sys2Proof.Machine

open Polynomial
open Sys2Proof.Statements (polyP polyG modulusP modulusG identityBlock)

/-! ## The shift -/

theorem ghashShift_xor (v w : Block) : ghashShift (v ^^^ w) = ghashShift v ^^^ ghashShift w := by
  simp only [ghashShift, ite_xor_right, BitVec.getLsbD_xor, ite_xor_condition, BitVec.ushiftRight_xor_distrib]
  ac_rfl

theorem ghashShift_zero : ghashShift 0 = 0 := by decide

/-- The shift moves a single bit down. -/
theorem ghashShift_twoPow_succ {i : Nat} (inside : i + 1 < 128) :
    ghashShift (BitVec.twoPow 128 (i + 1)) = BitVec.twoPow 128 i := by
  apply BitVec.eq_of_getLsbD_eq
  intro j hj
  simp [ghashShift, BitVec.getLsbD_twoPow, inside, show i < 128 by omega, Nat.add_comm 1 j]

/-- Bit 0 falls out of the shift and comes back as 0xE1 in the top byte. -/
theorem ghashShift_twoPow_zero : ghashShift (BitVec.twoPow 128 0) =
    BitVec.twoPow 128 127 ^^^ BitVec.twoPow 128 126 ^^^ BitVec.twoPow 128 125 ^^^ BitVec.twoPow 128 120 := by decide

theorem iterate_ghashShift_top {i : Nat} (inside : i < 128) :
    ghashShift^[127 - i] (BitVec.twoPow 128 127) = BitVec.twoPow 128 i := by
  suffices down : ∀ k ≤ 127, ghashShift^[k] (BitVec.twoPow 128 127) = BitVec.twoPow 128 (127 - k) by
    rw [down _ (by omega), Nat.sub_sub_self (by omega)]
  intro k
  induction k with
  | zero => exact fun _ => rfl
  | succ k ih =>
    intro below
    rw [Function.iterate_succ_apply', ih (by omega), show 127 - k = (127 - (k + 1)) + 1 by omega,
      ghashShift_twoPow_succ (by omega)]

/-! ## The GHASH loop as a product -/

/-- The product of two big-endian integers that the loop of 41_uhash.md R154 computes. -/
def ghashProduct (x v : Block) : Block := ghashLoop x 128 0 v

/-- The identity of the product: x^0, the top bit of a big-endian integer. -/
def ghashOne : Block := BitVec.twoPow 128 127

theorem dot_eq_ghashProduct (a h : Block) : dot a h = ghashProduct a (ghashShift h) := dot_eq_ghashLoop a h

theorem gmul_eq_ghashProduct (x y : Block) :
    gmul x y = reverseBytes (ghashProduct (reverseBytes x) (reverseBytes y)) := rfl

theorem ghashProduct_twoPow {i : Nat} (inside : i < 128) (v : Block) :
    ghashProduct (BitVec.twoPow 128 i) v = ghashShift^[127 - i] v := by
  rw [ghashProduct, ghashLoop_twoPow inside, if_pos inside]
  exact BitVec.zero_xor

theorem ghashProduct_xor_left (x y v : Block) :
    ghashProduct (x ^^^ y) v = ghashProduct x v ^^^ ghashProduct y v := ghashLoop_xor x y 0 0 v 128

theorem ghashProduct_shift (x v : Block) : ghashProduct x (ghashShift v) = ghashShift (ghashProduct x v) := by
  induction x using block_xor_induction with
  | bit i inside =>
    rw [ghashProduct_twoPow inside, ghashProduct_twoPow inside, ← Function.iterate_succ_apply,
      Function.iterate_succ_apply']
  | xor x y left right => rw [ghashProduct_xor_left, left, right, ghashProduct_xor_left, ghashShift_xor]

theorem ghashProduct_iterate_shift (x v : Block) (k : Nat) :
    ghashProduct x (ghashShift^[k] v) = ghashShift^[k] (ghashProduct x v) :=
  Function.Semiconj.iterate_right (f := ghashProduct x) (fun v => ghashProduct_shift x v) k v

theorem iterate_ghashShift_xor (k : Nat) (v w : Block) :
    ghashShift^[k] (v ^^^ w) = ghashShift^[k] v ^^^ ghashShift^[k] w :=
  Function.Semiconj₂.iterate (op := (· ^^^ ·)) ghashShift_xor k v w

theorem ghashProduct_xor_right (x v w : Block) :
    ghashProduct x (v ^^^ w) = ghashProduct x v ^^^ ghashProduct x w := by
  induction x using block_xor_induction with
  | bit i inside => simp only [ghashProduct_twoPow inside, iterate_ghashShift_xor]
  | xor x y left right =>
    rw [ghashProduct_xor_left, left, right, ghashProduct_xor_left, ghashProduct_xor_left]
    ac_rfl

theorem ghashProduct_left_comm (x y v : Block) :
    ghashProduct x (ghashProduct y v) = ghashProduct y (ghashProduct x v) := by
  induction x using block_xor_induction with
  | bit i inside => rw [ghashProduct_twoPow inside, ghashProduct_twoPow inside, ghashProduct_iterate_shift]
  | xor x z left right => rw [ghashProduct_xor_left, left, right, ghashProduct_xor_left, ghashProduct_xor_right]

theorem ghashProduct_one (x : Block) : ghashProduct x ghashOne = x := by
  induction x using block_xor_induction with
  | bit i inside => rw [ghashProduct_twoPow inside, ghashOne, iterate_ghashShift_top inside]
  | xor x y left right => rw [ghashProduct_xor_left, left, right]

theorem ghashProduct_comm (x y : Block) : ghashProduct x y = ghashProduct y x := by
  calc ghashProduct x y = ghashProduct x (ghashProduct y ghashOne) := by rw [ghashProduct_one]
    _ = ghashProduct y (ghashProduct x ghashOne) := ghashProduct_left_comm x y _
    _ = ghashProduct y x := by rw [ghashProduct_one]

theorem ghashProduct_assoc (x y v : Block) :
    ghashProduct (ghashProduct x y) v = ghashProduct x (ghashProduct y v) := by
  rw [ghashProduct_comm, ghashProduct_left_comm, ghashProduct_comm v y]

theorem ghashProduct_zero_right (x : Block) : ghashProduct x 0 = 0 := by
  induction x using block_xor_induction with
  | bit i inside => rw [ghashProduct_twoPow inside, Function.iterate_fixed ghashShift_zero]
  | xor x y left right => rw [ghashProduct_xor_left, left, right]; rfl

/-! ## The update (41_uhash.md R155, R167) -/

theorem hashMul_xor_left (m : HashMode) (a b h : Block) : hashMul m (a ^^^ b) h = hashMul m a h ^^^ hashMul m b h := by
  cases m with
  | polyval => exact dot_xor_left a b h
  | ghash => simp only [hashMul, gmul_eq_ghashProduct, reverseBytes_xor, ghashProduct_xor_left]

theorem hashMul_zero_left (m : HashMode) (h : Block) : hashMul m 0 h = 0 := by
  have doubled := hashMul_xor_left m 0 0 h
  rwa [BitVec.xor_self, BitVec.xor_self] at doubled

theorem reverseBytes_zero : reverseBytes 0 = 0 := by decide

theorem hashMul_zero_right (m : HashMode) (a : Block) : hashMul m a 0 = 0 := by
  cases m with
  | polyval => rw [hashMul, dot_eq_ghashProduct, ghashShift_zero, ghashProduct_zero_right]
  | ghash => rw [hashMul, gmul_eq_ghashProduct, reverseBytes_zero, ghashProduct_zero_right, reverseBytes_zero]

theorem hashMul_identityBlock (m : HashMode) (a : Block) : hashMul m a (identityBlock m) = a := by
  cases m with
  | polyval =>
    rw [hashMul, dot_eq_ghashProduct, show ghashShift (identityBlock .polyval) = ghashOne by decide, ghashProduct_one]
  | ghash =>
    rw [hashMul, gmul_eq_ghashProduct, show reverseBytes (identityBlock .ghash) = ghashOne by decide, ghashProduct_one,
      reverseBytes_reverseBytes]

theorem hashMul_assoc (m : HashMode) (a b c : Block) : hashMul m (hashMul m a b) c = hashMul m a (hashMul m b c) := by
  cases m with
  | polyval =>
    simp only [hashMul, dot_eq_ghashProduct]
    rw [ghashProduct_assoc, ghashProduct_comm (ghashShift b), ghashProduct_shift, ghashProduct_comm b]
  | ghash => simp only [hashMul, gmul_eq_ghashProduct, reverseBytes_reverseBytes, ghashProduct_assoc]

/-- The product with a power of H is that many products with H. -/
theorem hashMul_hashPower (m : HashMode) (h a : Block) (k : Nat) :
    hashMul m a (hashPower m h k) = (hashMul m · h)^[k + 1] a := by
  induction k with
  | zero => rfl
  | succ k ih => rw [hashPower, ← hashMul_assoc, ih, Function.iterate_succ_apply' _ (k + 1)]

/-- Six Horner steps are the sum of the six products with the powers of H (41_uhash.md R158). -/
theorem hashFold_six (m : HashMode) (h s x0 x1 x2 x3 x4 x5 : Block) :
    hashFold m h s [x0, x1, x2, x3, x4, x5] =
      hashMul m (s ^^^ x0) (hashPower m h 5) ^^^ hashMul m x1 (hashPower m h 4) ^^^ hashMul m x2 (hashPower m h 3) ^^^
        hashMul m x3 (hashPower m h 2) ^^^ hashMul m x4 (hashPower m h 1) ^^^ hashMul m x5 (hashPower m h 0) := by
  simp only [hashFold, hashUpd, hashMul_hashPower, hashMul_xor_left, Function.iterate_succ_apply,
    Function.iterate_zero_apply]

end Sys2Proof.Machine

namespace Sys2Proof.Proofs
open Sys2Proof.Machine

/-- Settles O42, by the laws of the product in each mode. -/
theorem updateLaws : Obligations.UpdateLaws := by
  intro m h s x
  exact ⟨hashMul_zero_right m _, hashMul_identityBlock m _, hashMul_xor_left m s x h, hashMul_zero_left m h⟩

/-- Settles O43: a completing HUPD6 folds its six slots, and the table's entries are the powers of H. -/
theorem aggregatedUpdate : Obligations.AggregatedUpdate := by
  intro cls src s t table ran completed before x mul
  rcases exec_cases ran with ⟨e, -, rfl⟩ | ⟨-, rfl⟩
  · simp [before] at completed
  · have folded : (commandEffect (.hupd6 cls src) s).complete.acc = hashFold s.hmode s.h s.acc (s.sixBlocks src) := by
      simp [commandEffect, State.hupd6Effect]
    rw [folded, table]
    cases src <;> exact hashFold_six ..

end Sys2Proof.Proofs
end

section
/-! PROOFS. Both hash products as field products (41_uhash.md R151 to R154). Modulo the modulus, with x the class of X,
the shift divides by x the polynomial whose coefficient of x^i is bit i, and multiplies by x the one whose coefficient
of x^i is bit 127 - i. -/

namespace Sys2Proof.Machine

open Polynomial
open Sys2Proof.Statements (polyP polyG modulusP modulusG)

/-! ## Polynomials of bits -/

/-- The polynomial with the given coefficients. -/
noncomputable def bitPolynomial (bit : Nat → Bool) : (ZMod 2)[X] := ∑ i ∈ Finset.range 128, if bit i then X ^ i else 0

theorem bitPolynomial_congr {bit bit' : Nat → Bool} (same : ∀ i < 128, bit i = bit' i) :
    bitPolynomial bit = bitPolynomial bit' :=
  Finset.sum_congr rfl fun i inside => by rw [same i (Finset.mem_range.mp inside)]

theorem bitPolynomial_xor (bit bit' : Nat → Bool) :
    bitPolynomial (fun i => bit i ^^ bit' i) = bitPolynomial bit + bitPolynomial bit' := by
  simp only [bitPolynomial, ← Finset.sum_add_distrib]
  refine Finset.sum_congr rfl fun i _ => ?_
  by_cases one : bit i = true <;> by_cases one' : bit' i = true <;> simp [one, one', CharTwo.add_self_eq_zero]

theorem bitPolynomial_single {k : Nat} (inside : k < 128) : bitPolynomial (fun i => decide (i = k)) = X ^ k := by
  simp [bitPolynomial, inside]

/-- Bit i of the block is bit i mod 8 of byte i div 8. -/
theorem getLsbD_byteAt_div_mod (b : Block) (i : Nat) : (byteAt b (i / 8)).getLsbD (i % 8) = b.getLsbD i := by
  simp [byteAt, show i % 8 < 8 by omega, show 8 * (i / 8) + i % 8 = i by omega]

theorem polyP_eq (b : Block) : polyP b = bitPolynomial fun i => b.getLsbD i := by
  simp only [polyP, bitPolynomial, getLsbD_byteAt_div_mod]

/-- The polynomial of a big-endian integer in GHASH's bit order: the top bit is the coefficient of x^0. -/
noncomputable def mirrorPolynomial (v : Block) : (ZMod 2)[X] := bitPolynomial fun i => v.getLsbD (127 - i)

theorem polyG_reverseBytes (v : Block) : polyG (reverseBytes v) = mirrorPolynomial v := by
  refine bitPolynomial_congr fun i inside => ?_
  rw [byteAt_reverseBytes _ (by omega), ← getLsbD_byteAt_div_mod v (127 - i), show 15 - i / 8 = (127 - i) / 8 by omega,
    show 7 - i % 8 = (127 - i) % 8 by omega]

theorem polyP_xor (a b : Block) : polyP (a ^^^ b) = polyP a + polyP b := by
  simp only [polyP_eq, BitVec.getLsbD_xor, bitPolynomial_xor]

theorem mirrorPolynomial_xor (v w : Block) : mirrorPolynomial (v ^^^ w) = mirrorPolynomial v + mirrorPolynomial w := by
  simp only [mirrorPolynomial, BitVec.getLsbD_xor, bitPolynomial_xor]

theorem polyP_twoPow {k : Nat} (inside : k < 128) : polyP (BitVec.twoPow 128 k) = X ^ k := by
  rw [polyP_eq, ← bitPolynomial_single inside]
  refine bitPolynomial_congr fun i _ => ?_
  simp [BitVec.getLsbD_twoPow, inside, eq_comm]

theorem mirrorPolynomial_twoPow {k : Nat} (inside : k < 128) :
    mirrorPolynomial (BitVec.twoPow 128 k) = X ^ (127 - k) := by
  rw [mirrorPolynomial, ← bitPolynomial_single (show 127 - k < 128 by omega)]
  refine bitPolynomial_congr fun i low => ?_
  simp [BitVec.getLsbD_twoPow, inside, show k = 127 - i ↔ i = 127 - k by omega]

theorem two_eq_zero_of_adjoinRoot (f : (ZMod 2)[X]) : (2 : AdjoinRoot f) = 0 := by
  have two := congrArg (AdjoinRoot.of f) (show (2 : ZMod 2) = 0 from rfl)
  rwa [map_ofNat, map_zero] at two

/-! ## POLYVAL: the shift divides by x -/

theorem root_modulusP : AdjoinRoot.root modulusP ^ 128 + AdjoinRoot.root modulusP ^ 127 +
    AdjoinRoot.root modulusP ^ 126 + AdjoinRoot.root modulusP ^ 121 + 1 = 0 := by
  have zero := AdjoinRoot.mk_self (f := modulusP)
  conv at zero => lhs; arg 2; unfold modulusP
  simpa only [map_add, map_pow, map_one, AdjoinRoot.mk_X] using zero

/-- The class of a block's polynomial modulo P(x). -/
noncomputable def classP (b : Block) : AdjoinRoot modulusP := AdjoinRoot.mk modulusP (polyP b)

theorem classP_xor (a b : Block) : classP (a ^^^ b) = classP a + classP b := by
  rw [classP, polyP_xor, map_add, classP, classP]

theorem classP_twoPow {k : Nat} (inside : k < 128) : classP (BitVec.twoPow 128 k) = AdjoinRoot.root modulusP ^ k := by
  rw [classP, polyP_twoPow inside, map_pow, AdjoinRoot.mk_X]

theorem root_mul_classP_ghashShift (v : Block) : AdjoinRoot.root modulusP * classP (ghashShift v) = classP v := by
  induction v using block_xor_induction with
  | bit i inside =>
    cases i with
    | zero =>
      rw [ghashShift_twoPow_zero, classP_xor, classP_xor, classP_xor, classP_twoPow inside,
        classP_twoPow (by decide), classP_twoPow (by decide), classP_twoPow (by decide), classP_twoPow (by decide)]
      linear_combination root_modulusP - two_eq_zero_of_adjoinRoot modulusP
    | succ i =>
      rw [ghashShift_twoPow_succ inside, classP_twoPow (by omega), classP_twoPow inside, pow_succ']
  | xor v w left right => rw [ghashShift_xor, classP_xor, mul_add, left, right, classP_xor]

theorem root_pow_mul_classP_iterate (k : Nat) (v : Block) :
    AdjoinRoot.root modulusP ^ k * classP (ghashShift^[k] v) = classP v := by
  induction k with
  | zero => simp
  | succ k ih => rw [Function.iterate_succ_apply', pow_succ, mul_assoc, root_mul_classP_ghashShift, ih]

theorem root_pow_mul_classP_dot (a b : Block) :
    AdjoinRoot.root modulusP ^ 128 * classP (dot a b) = classP a * classP b := by
  induction a using block_xor_induction with
  | bit i inside =>
    rw [dot_twoPow inside, classP_twoPow inside, ← Nat.add_sub_cancel' inside.le, pow_add, mul_assoc,
      Nat.add_sub_cancel_left, root_pow_mul_classP_iterate]
  | xor a c left right => rw [dot_xor_left, classP_xor, mul_add, left, right, classP_xor, add_mul]

/-! ## GHASH: the shift multiplies by x -/

theorem root_modulusG : AdjoinRoot.root modulusG ^ 128 + AdjoinRoot.root modulusG ^ 7 +
    AdjoinRoot.root modulusG ^ 2 + AdjoinRoot.root modulusG + 1 = 0 := by
  have zero := AdjoinRoot.mk_self (f := modulusG)
  conv at zero => lhs; arg 2; unfold modulusG
  simpa only [map_add, map_pow, map_one, AdjoinRoot.mk_X] using zero

/-- The class of a big-endian integer's polynomial modulo the GHASH modulus. -/
noncomputable def classG (v : Block) : AdjoinRoot modulusG := AdjoinRoot.mk modulusG (mirrorPolynomial v)

theorem classG_xor (v w : Block) : classG (v ^^^ w) = classG v + classG w := by
  rw [classG, mirrorPolynomial_xor, map_add, classG, classG]

theorem classG_twoPow {k : Nat} (inside : k < 128) :
    classG (BitVec.twoPow 128 k) = AdjoinRoot.root modulusG ^ (127 - k) := by
  rw [classG, mirrorPolynomial_twoPow inside, map_pow, AdjoinRoot.mk_X]

theorem classG_ghashShift (v : Block) : classG (ghashShift v) = AdjoinRoot.root modulusG * classG v := by
  induction v using block_xor_induction with
  | bit i inside =>
    cases i with
    | zero =>
      rw [ghashShift_twoPow_zero, classG_xor, classG_xor, classG_xor, classG_twoPow inside,
        classG_twoPow (by decide), classG_twoPow (by decide), classG_twoPow (by decide), classG_twoPow (by decide)]
      linear_combination (1 + AdjoinRoot.root modulusG + AdjoinRoot.root modulusG ^ 2 + AdjoinRoot.root modulusG ^ 7) *
        two_eq_zero_of_adjoinRoot modulusG - root_modulusG
    | succ i =>
      rw [ghashShift_twoPow_succ inside, classG_twoPow (by omega), classG_twoPow inside, ← pow_succ',
        show 127 - i = 127 - (i + 1) + 1 by omega]
  | xor v w left right => rw [ghashShift_xor, classG_xor, left, right, classG_xor, mul_add]

theorem classG_iterate_ghashShift (k : Nat) (v : Block) :
    classG (ghashShift^[k] v) = AdjoinRoot.root modulusG ^ k * classG v := by
  induction k with
  | zero => simp
  | succ k ih => rw [Function.iterate_succ_apply', classG_ghashShift, ih, ← mul_assoc, ← pow_succ']

theorem classG_ghashProduct (x v : Block) : classG (ghashProduct x v) = classG x * classG v := by
  induction x using block_xor_induction with
  | bit i inside => rw [ghashProduct_twoPow inside, classG_iterate_ghashShift, classG_twoPow inside]
  | xor x y left right => rw [ghashProduct_xor_left, classG_xor, left, right, classG_xor, add_mul]

theorem polyG_eq (b : Block) : polyG b = mirrorPolynomial (reverseBytes b) := by
  rw [← polyG_reverseBytes, reverseBytes_reverseBytes]

end Sys2Proof.Machine

namespace Sys2Proof.Proofs
open Sys2Proof.Machine

/-- Settles O39: of the 128 turns of the reduction, those left after bit i of A divide by x, so x^128 times the product
keeps x^i times B; the products of the other bits add up. -/
theorem dotIsFieldProduct : Obligations.DotIsFieldProduct := by
  intro a b
  rw [← AdjoinRoot.mk_eq_mk, map_mul, map_mul, map_pow, AdjoinRoot.mk_X]
  exact root_pow_mul_classP_dot a b

/-- Settles O40: the turn that meets bit i of X adds V, multiplied by x once per turn before it. -/
theorem gmulIsFieldProduct : Obligations.GmulIsFieldProduct := by
  intro a b
  rw [← AdjoinRoot.mk_eq_mk, map_mul, gmul_eq_ghashProduct, polyG_reverseBytes, polyG_eq, polyG_eq]
  exact classG_ghashProduct _ _

end Sys2Proof.Proofs
end

section
/-! PROOFS. Sealing one message block and opening it again (45_control.md R242, R243, R249): the commands of both runs
from any state whose subkeys are those a given state derives, and what each leaves of the session and the stream. -/

namespace Sys2Proof.Machine

open Sys2Proof.Statements (sealOneBlock openOneBlock)

/-! ## What a run works under -/

/-- t belongs to a run begun at s: its subkeys are those s derives, and what they come from and the input slots are
s's. -/
structure RunsUnder (s t : State) : Prop where
  params : t.params = s.params
  kv : t.kv = s.kv
  mrk : t.mrk = s.mrk
  mksz : t.mksz = s.mksz
  nonce : t.nonce = s.nonce
  din : t.din = s.din
  h : t.h = s.derivedH
  hv : t.hv = true
  erk : t.erk = keyExpansion s.mksz s.derivedEK
  sv : t.sv = true

/-- A POLYVAL session without AAD, in a phase, with ACC and MLEN as given. -/
structure SessionAt (ph : Phase) (acc : Block) (mlen : BitVec 64) (t : State) : Prop where
  hmode : t.hmode = .polyval
  ph : t.ph = ph
  acc : t.acc = acc
  alen : t.alen = 0
  mlen : t.mlen = mlen

/-- A POLYVAL session with nothing absorbed yet. -/
structure FreshSession (t : State) : Prop extends SessionAt .aad 0 0 t where
  mpart : t.mpart = false

/-- A counter stream at the counter block c. -/
structure StreamAt (c : Block) (t : State) : Prop where
  ctr : t.ctr = c
  cv : t.cv = true
  cpart : t.cpart = false

/-- The tag of one message block x of n bytes and no AAD under the subkeys s derives. -/
def State.oneBlockTag (s : State) (n : Nat) (x : Block) : Block :=
  aes (keyExpansion s.mksz s.derivedEK)
    (clearTopBit (hashUpd .polyval s.derivedH (hashUpd .polyval s.derivedH 0 x) ((8 * BitVec.ofNat 64 n) ++ 0#64) ^^^
      s.nonce.setWidth 128))

/-- The first keystream block of the stream seeded with a tag, under the subkeys s derives. -/
def State.oneBlockPad (s : State) (tag : Block) : Block := aes (keyExpansion s.mksz s.derivedEK) (setTopBit tag)

/-! ## The commands of the runs -/

theorem execAll_append_next {is js : List Instr} {s t : State} (first : execAll is s = .next t) :
    execAll (is ++ js) s = execAll js t := by
  induction is generalizing s with
  | nil =>
    obtain rfl : s = t := Host.Outcome.next.inj first
    rfl
  | cons i is ih =>
    obtain ⟨u, ran⟩ := exec_answers_next i s
    rw [execAll_cons_next ran] at first
    rw [List.cons_append, execAll_cons_next ran, ih first]

theorem run_kdf {s : State} (keyed : s.kv = true) : ∃ t, exec .kdf s = .next t ∧ RunsUnder s t :=
  ⟨_, exec_kdf_of_keyed keyed, ⟨rfl, rfl, rfl, rfl, rfl, rfl, rfl, rfl, rfl, rfl⟩⟩

section Run
variable {s t : State} (under : RunsUnder s t)
include under

theorem run_hinit : ∃ t', exec (.hinit .polyval) t = .next t' ∧ RunsUnder s t' ∧ FreshSession t' ∧
    ∀ c, StreamAt c t → StreamAt c t' :=
  ⟨_, exec_hinit_of_key .polyval under.hv, { under with }, ⟨⟨rfl, rfl, rfl, rfl, rfl⟩, rfl⟩,
    fun _ stream => { stream with }⟩

theorem run_ctri {src : SeedSource} (present : t.seedMissing src = false) :
    ∃ t', exec (.ctri src) t = .next t' ∧ RunsUnder s t' ∧ StreamAt (setTopBit (t.seed src)) t' ∧ t'.tag = t.tag :=
  ⟨_, exec_ctri_of_seed_present present, { under with }, ⟨rfl, rfl, rfl⟩, rfl⟩

theorem run_ctrx1 (slot : Fin 8) (n : Nat) {tag : Block} (stream : StreamAt (setTopBit tag) t) :
    ∃ t', exec (.ctrx1 slot n) t = .next t' ∧ RunsUnder s t' ∧
      t'.dout[slot] = firstBytes n (s.din[slot] ^^^ s.oneBlockPad tag) ∧ t'.tag = t.tag ∧
      (FreshSession t → FreshSession t') := by
  have pad : t.keystream 0 = s.oneBlockPad tag := by
    rw [State.keystream, incBy, stream.ctr, under.erk, State.oneBlockPad]
  refine ⟨_, exec_ctrx1_of_stream slot n under.sv stream.cv stream.cpart, { under with }, ?_, rfl,
    fun fresh => { fresh with }⟩
  rw [State.complete_dout, getElem_dout_ctrx1Effect, pad, under.din]

theorem run_hupd (src : DataSource) (slot : Fin 8) {n : Nat} (fits : n ≤ s.params.maxLenBytes)
    (fresh : FreshSession t) :
    ∃ t', exec (.hupd .message src slot n) t = .next t' ∧ RunsUnder s t' ∧ t'.dout = t.dout ∧
      SessionAt .msg (hashUpd .polyval s.derivedH 0 (firstBytes n (t.sourceSlots src)[slot])) (BitVec.ofNat 64 n)
        t' := by
  have legal : t.CanAbsorb n .message :=
    ⟨.inl fresh.ph, fresh.mpart, by rw [fresh.mlen, under.params]; exact (Nat.zero_add n).trans_le fits⟩
  refine ⟨_, exec_hupd_of_canAbsorb src slot legal, { under with }, rfl, fresh.hmode, rfl, ?acc, fresh.alen, ?mlen⟩
  case acc =>
    rw [← fresh.hmode, ← under.h, ← fresh.acc]
    rfl
  case mlen =>
    show t.mlen + BitVec.ofNat 64 n = BitVec.ofNat 64 n
    rw [fresh.mlen]
    exact BitVec.zero_add _

theorem run_hlen {acc : Block} {mlen : BitVec 64} (session : SessionAt .msg acc mlen t) :
    ∃ t', exec .hlen t = .next t' ∧ RunsUnder s t' ∧ t'.dout = t.dout ∧
      SessionAt .final (hashUpd .polyval s.derivedH acc ((8 * mlen) ++ 0#64)) mlen t' := by
  have is_open : t.noOpenSession = false := by simp [State.noOpenSession, session.ph]
  have length_block : t.lengthBlock = (8 * mlen) ++ 0#64 := by
    simp [State.lengthBlock, session.hmode, session.alen, session.mlen]
  refine ⟨_, exec_hlen_of_session is_open, { under with }, rfl, session.hmode, rfl, ?acc, session.alen, session.mlen⟩
  case acc =>
    rw [← length_block, ← session.acc, ← under.h, ← session.hmode]
    rfl

theorem run_tagf {acc : Block} {mlen : BitVec 64} (session : SessionAt .final acc mlen t) :
    ∃ t', exec .tagf t = .next t' ∧ RunsUnder s t' ∧ t'.dout = t.dout ∧ t'.tv = true ∧
      t'.tag = aes (keyExpansion s.mksz s.derivedEK) (clearTopBit (acc ^^^ s.nonce.setWidth 128)) := by
  refine ⟨_, exec_tagf_of_final under.sv session.hmode session.ph, { under with }, rfl, rfl, ?_⟩
  rw [← session.acc, ← under.nonce, ← under.erk]
  rfl

/-- The three commands that absorb the one message block and compute the tag. -/
theorem run_tag (src : DataSource) (slot : Fin 8) {n : Nat} (fits : n ≤ s.params.maxLenBytes) (fresh : FreshSession t) :
    ∃ t', execAll [.hupd .message src slot n, .hlen, .tagf] t = .next t' ∧ RunsUnder s t' ∧
      t'.tag = s.oneBlockTag n (firstBytes n (t.sourceSlots src)[slot]) ∧ t'.tv = true ∧ t'.dout = t.dout := by
  obtain ⟨t₁, hupd, under₁, dout₁, absorbed⟩ := run_hupd under src slot fits fresh
  obtain ⟨t₂, hlen, under₂, dout₂, finished⟩ := run_hlen under₁ absorbed
  obtain ⟨t₃, tagf, under₃, dout₃, valid, tag⟩ := run_tagf under₂ finished
  refine ⟨t₃, ?_, under₃, tag, valid, dout₃.trans (dout₂.trans dout₁)⟩
  rw [execAll_cons_next hupd, execAll_cons_next hlen, execAll_cons_next tagf, execAll_nil]

end Run

/-- The seal run: the tag is that of the plaintext block, the output the plaintext under the tag's stream. -/
theorem run_sealOneBlock {n : Nat} {s : State} (fits : n ≤ s.params.maxLenBytes) (keyed : s.kv = true) :
    ∃ t, execAll (sealOneBlock n) s = .next t ∧ RunsUnder s t ∧ t.tag = s.oneBlockTag n (firstBytes n s.din[0]) ∧
      t.dout[0] = firstBytes n (s.din[0] ^^^ s.oneBlockPad t.tag) := by
  obtain ⟨t₁, kdf, under₁⟩ := run_kdf keyed
  obtain ⟨t₂, hinit, under₂, fresh, -⟩ := run_hinit under₁
  obtain ⟨t₃, tagged, under₃, tag₃, valid, -⟩ := run_tag under₂ .din 0 fits fresh
  obtain ⟨t₄, ctri, under₄, stream, tag₄⟩ := run_ctri (src := .tag) under₃ (by simp [State.seedMissing, valid])
  obtain ⟨t₅, ctrx1, under₅, output, tag₅, -⟩ := run_ctrx1 under₄ 0 n stream
  have run : execAll (sealOneBlock n) s = .next t₅ := by
    rw [show sealOneBlock n = .kdf :: .hinit .polyval :: ([.hupd .message .din 0 n, .hlen, .tagf] ++
      [.ctri .tag, .ctrx1 0 n]) from rfl, execAll_cons_next kdf, execAll_cons_next hinit, execAll_append_next tagged,
      execAll_cons_next ctri, execAll_cons_next ctrx1, execAll_nil]
  have same_tag : t₅.tag = t₃.tag := tag₅.trans tag₄
  refine ⟨t₅, run, under₅, ?_, ?_⟩
  · rw [same_tag, tag₃, State.sourceSlots, under₂.din]
    rfl
  · rw [same_tag]
    exact output

/-- The open run: the output is the sealed block under the received tag's stream, and the tag is recomputed from it. -/
theorem run_openOneBlock {n : Nat} {s : State} (fits : n ≤ s.params.maxLenBytes) (keyed : s.kv = true) :
    ∃ u, execAll (openOneBlock n) s = .next u ∧ u.tv = true ∧
      u.dout[1] = firstBytes n (s.din[1] ^^^ s.oneBlockPad s.din[0]) ∧
      u.tag = s.oneBlockTag n (firstBytes n u.dout[1]) := by
  obtain ⟨t₁, kdf, under₁⟩ := run_kdf keyed
  obtain ⟨t₂, ctri, under₂, stream₂, -⟩ := run_ctri (src := .din) under₁ rfl
  obtain ⟨t₃, hinit, under₃, fresh₃, stream₃⟩ := run_hinit under₂
  obtain ⟨t₄, ctrx1, under₄, output, -, fresh₄⟩ := run_ctrx1 under₃ 1 n (stream₃ _ stream₂)
  obtain ⟨t₅, tagged, -, tag₅, valid, dout₅⟩ := run_tag under₄ .dout 1 fits (fresh₄ fresh₃)
  have run : execAll (openOneBlock n) s = .next t₅ := by
    rw [show openOneBlock n = .kdf :: .ctri .din :: .hinit .polyval :: .ctrx1 1 n ::
      [.hupd .message .dout 1 n, .hlen, .tagf] from rfl, execAll_cons_next kdf, execAll_cons_next ctri,
      execAll_cons_next hinit, execAll_cons_next ctrx1, tagged]
  have seed : t₁.seed .din = s.din[0] := by rw [State.seed, under₁.din]
  rw [seed] at output
  refine ⟨t₅, run, valid, ?_, ?_⟩
  · rw [dout₅]
    exact output
  · rw [tag₅, dout₅]
    rfl

/-- What a run computes depends on the master key and the nonce alone. -/
theorem oneBlock_congr {r s : State} (mrk : r.mrk = s.mrk) (mksz : r.mksz = s.mksz) (nonce : r.nonce = s.nonce) :
    r.oneBlockTag = s.oneBlockTag ∧ r.oneBlockPad = s.oneBlockPad := by
  have half : r.kdfHalf = s.kdfHalf := by
    funext i
    rw [State.kdfHalf, mrk, nonce, State.kdfHalf]
  have h : r.derivedH = s.derivedH := by rw [State.derivedH, half, State.derivedH]
  have ek : r.derivedEK = s.derivedEK := by rw [State.derivedEK, mksz, half, State.derivedEK]
  constructor
  · funext n x
    rw [State.oneBlockTag, mksz, ek, h, nonce, State.oneBlockTag]
  · funext tag
    rw [State.oneBlockPad, mksz, ek, State.oneBlockPad]

/-- The same stream on the first n bytes twice gives them back. -/
theorem firstBytes_xor_twice (n : Nat) (x pad : Block) :
    firstBytes n (firstBytes n (x ^^^ pad) ^^^ pad) = firstBytes n x := by
  refine block_ext fun b inside => ?_
  rw [byteAt_firstBytes _ _ inside, byteAt_firstBytes _ _ inside, byteAt_xor, byteAt_firstBytes _ _ inside]
  split
  · rw [byteAt_xor, BitVec.xor_assoc, BitVec.xor_self, BitVec.xor_zero]
  · rfl

theorem firstBytes_firstBytes (n : Nat) (x : Block) : firstBytes n (firstBytes n x) = firstBytes n x := by
  refine block_ext fun b inside => ?_
  rw [byteAt_firstBytes _ _ inside, byteAt_firstBytes _ _ inside]
  split <;> rfl

end Sys2Proof.Machine

namespace Sys2Proof.Proofs
open Sys2Proof.Machine

/-- Settles O60: the open run derives the same subkeys, its stream is seeded with the received tag as the seal run's
was, so the output is the plaintext again, and so is its tag. -/
theorem sealThenOpenOneBlock : Obligations.SealThenOpenOneBlock := by
  intro n s _ most fits keyed
  obtain ⟨t, sealed, under, tag, ciphertext⟩ := run_sealOneBlock fits keyed
  let r := (t.loadSlot 0 t.tag).loadSlot 1 t.dout[0]
  have fits' : n ≤ r.params.maxLenBytes := by rwa [show r.params = s.params from under.params]
  obtain ⟨u, opened, valid, output, tag'⟩ := run_openOneBlock (s := r) fits' (under.kv.trans keyed)
  obtain ⟨same_tag, same_pad⟩ := oneBlock_congr (r := r) under.mrk under.mksz under.nonce
  have received : r.din[0] = t.tag := by simp [r, State.loadSlot]
  have loaded : r.din[1] = t.dout[0] := by simp [r, State.loadSlot]
  have recovered : u.dout[1] = firstBytes n s.din[0] := by
    rw [output, loaded, received, same_pad, ciphertext, firstBytes_xor_twice]
  refine ⟨t, u, sealed, opened, fun b inside => ?bytes, ?tag, valid⟩
  case bytes => rw [recovered, byteAt_firstBytes _ _ inside]
  case tag => rw [tag', same_tag, recovered, firstBytes_firstBytes, tag]

end Sys2Proof.Proofs
end
